-- ==== Sys2Proof/Word.lean ====
section
/-! DEFINITION. The plain data types of the JD-640's values: bytes, the segment clock, and the numbered things of a segment. -/

namespace Sys2Proof

/-- A byte on the link (11_frame_and_entry_formats). -/
abbrev Byte := BitVec 8

/-- A reading of the 32-bit segment clock, in milliseconds (R1). -/
abbrev Clock := BitVec 32

/-- A short address 0 to 63 (00_scope, Conventions, Addresses). -/
abbrev Addr := Fin 64

/-- A zone 0 to 15, which is also the row group of that number (R37). -/
abbrev ZoneId := Fin 16

/-- A trunk or row group 0 to 15 (R26). -/
abbrev GroupId := Fin 16

/-- A sensor channel 0 to 7 (R42). -/
abbrev ChannelId := Fin 8

/-- A fade code 0 to 15 (11_frame_and_entry_formats, Fade codes). -/
abbrev Fade := Fin 16

/-- A deferral tag 0 to 15 (R135). -/
abbrev Tag := Fin 16

end Sys2Proof
end

