-- ==== Sys2Proof/Syntax.lean ====
section
/-! DEFINITION. The commands of the JD-640, one constructor per row of opcode_table.json, and the data they carry: received frames, window replies, and the configuration tables of a store image. -/

namespace Sys2Proof

/-! ## The configuration tables (10_in_band_management, Tables 1 to 7) -/

/-- What answers at a short address (R23). -/
inductive Role where
  | absent | luminaire | sensor
deriving DecidableEq, Repr

/-- A row map entry's configuration fields (R23). `none` is the zone NONE. -/
structure RowConfig where
  role : Role
  zone : Option ZoneId
  pmin : Nat
deriving DecidableEq, Repr

/-- A zone's eight configuration fields (R62). Rates in permille per second, dwell in seconds. -/
structure ZoneConfig where
  inUse : Bool
  target : Nat
  slewUp : Nat
  slewDown : Nat
  deadBand : Nat
  switchOff : Bool
  offDwell : Nat
  trimFade : Fade
deriving DecidableEq, Repr

/-- A channel's configuration fields (R42). `none` is the sensor unit NONE. -/
structure ChannelConfig where
  unit : Option Addr
  k : Nat
deriving DecidableEq, Repr

/-- An entry of the event route table (R158). -/
structure Route where
  priority : Nat
  rescan : Bool
deriving DecidableEq, Repr

/-- What starts scans without an outside trigger (03, Scan settings). -/
inductive ScanMode where
  | off | periodic | continuous
deriving DecidableEq, Repr

/-- The settings record (10, Tables; R45). Times in milliseconds, threshold in permille. -/
structure Settings where
  first : ChannelId
  last : ChannelId
  mode : ScanMode
  period : Nat
  sky : Option ChannelId
  threshold : Nat
  staleLimit : Nat
  recoverLimit : Nat
  verifyInterval : Nat
deriving DecidableEq, Repr

/-- Tables 1 to 7, as working memory and the store image hold them (R165). Coefficients are `coeffs[zone][channel]` (R64); bit `a` of a trunk group is set when address `a` is a member (R26). -/
structure Tables where
  rowMap : Vector RowConfig 64
  zones : Vector ZoneConfig 16
  channels : Vector ChannelConfig 8
  coeffs : Vector (Vector Nat 8) 16
  groups : Vector (BitVec 64) 16
  routes : Vector Route 11
  settings : Settings
deriving DecidableEq, Repr

/-- An image of the nonvolatile store: tables 1 to 7 and the CRC-16 it holds (R165). -/
structure StoreImage where
  tables : Tables
  crc : BitVec 16
deriving DecidableEq, Repr

/-- What the store is found to hold at the end of a write (R167): the captured image, or another. -/
inductive ReadBack where
  | captured
  | other (image : StoreImage)
deriving DecidableEq, Repr

/-! ## Frames -/

/-- The frame kinds 1 to 8 (11, The frame). -/
inductive FrameKind where
  | setLevel | query | reply | deviceConfig | manage | response | deferredReply | notice
deriving DecidableEq, Repr

/-- A frame without its header length and check byte, which are computed from it (R4, R173). -/
structure Frame where
  kind : FrameKind
  segment : Byte
  unit : Byte
  payload : List Byte
deriving DecidableEq, Repr

/-- What a receiver has of one stretch of line activity (R3, R5): the whole bytes received, up to the first framing fault of the cells (a cell with no mid-cell transition, or activity ending inside a byte) if there was one, and the noise mark. -/
structure Reception where
  bytes : List Byte
  broken : Bool
  noise : Bool
deriving DecidableEq, Repr

/-- How a row reply window ended on the line (R9): no frame began, or a frame was received, which has lasted so many microseconds from its beginning to its end, the time of the command (log entry 3). -/
inductive WindowReply where
  | silence
  | frame (rx : Reception) (lasted : Nat)
deriving DecidableEq, Repr

/-- The segment byte of an accepted trunk frame: the part's own number, or 255 (R7). -/
inductive Dest where
  | own | all
deriving DecidableEq, Repr

/-- The unit byte of a DEVICE CONFIG (R97). -/
inductive Target where
  | unit (a : Addr)
  | group (g : GroupId)
  | all
deriving DecidableEq, Repr

/-- What every MANAGE frame carries besides its operation's fields: its segment and its request number (11, MANAGE and RESPONSE). -/
structure Request where
  dest : Dest
  number : Byte
deriving DecidableEq, Repr

/-! ## The commands -/

/-- One constructor per row of opcode_table.json. Every command is an event at the part; `after` is the time in microseconds that has passed since the event before it. MANAGE operands are the bytes of the frame, so that values out of range can be sent. -/
inductive Instr where
  /-- POWER_ON (R168): the strap value, and whether the row supply is above its threshold. -/
  | powerOn (after : Nat) (straps : Fin 16) (above : Bool)
  /-- ROW_SENSE_CHANGE (R20): the side of the threshold on which the row supply now is. -/
  | rowSenseChange (after : Nat) (above : Bool)
  /-- ROW_POWER_ABSENT (R20). -/
  | rowPowerAbsent (after : Nat)
  /-- ROW_POWER_PRESENT (R20). -/
  | rowPowerPresent (after : Nat)
  /-- TRUNK_FRAME_ERROR (R5, R6): the frame as received. -/
  | trunkFrameError (after : Nat) (rx : Reception)
  /-- TRUNK_FRAME_IGNORED (R7): the frame as received. -/
  | trunkFrameIgnored (after : Nat) (rx : Reception)
  /-- TRUNK_FRAME_DISCARDED (R6, R8): the frame as received. -/
  | trunkFrameDiscarded (after : Nat) (rx : Reception)
  /-- TRUNK_LINE_ACTIVITY (R13). -/
  | trunkLineActivity (after : Nat)
  /-- TRUNK_ANSWER_START (R10). -/
  | trunkAnswerStart (after : Nat)
  /-- TRUNK_TRANSMIT_START (R13). -/
  | trunkTransmitStart (after : Nat)
  /-- ARBITRATION_LOSS (R14): whether the line fell idle when the part stopped driving. -/
  | arbitrationLoss (after : Nat) (lineIdle : Bool)
  /-- TRUNK_FRAME_SENT (R17). -/
  | trunkFrameSent (after : Nat)
  /-- SET_LEVEL_UNIT (R99): `extra` are payload bytes beyond the three required. -/
  | setLevelUnit (after : Nat) (dest : Dest) (unit : Addr) (level : BitVec 16) (fade : Byte) (extra : List Byte)
  /-- SET_LEVEL_GROUP (R100). -/
  | setLevelGroup (after : Nat) (dest : Dest) (group : GroupId) (level : BitVec 16) (fade : Byte) (extra : List Byte)
  /-- SET_LEVEL_BROADCAST (R101). -/
  | setLevelBroadcast (after : Nat) (dest : Dest) (level : BitVec 16) (fade : Byte) (extra : List Byte)
  /-- DEVICE_CONFIG_SET_GROUPS (R105). -/
  | deviceConfigSetGroups (after : Nat) (dest : Dest) (target : Target) (mask : BitVec 16) (extra : List Byte)
  /-- DEVICE_CONFIG (R106): any sub-kind other than SET GROUPS. -/
  | deviceConfig (after : Nat) (dest : Dest) (target : Target) (subKind : Byte) (extra : List Byte)
  /-- QUERY_TARGET_LEVEL (R131). -/
  | queryTargetLevel (after : Nat) (unit : Addr) (extra : List Byte)
  /-- QUERY_LIGHT_READING (R132). -/
  | queryLightReading (after : Nat) (unit : Addr) (extra : List Byte)
  /-- QUERY_OTHER_ITEM (R133). -/
  | queryOtherItem (after : Nat) (unit : Addr) (item : Byte) (extra : List Byte)
  /-- READ_ENTRY_PART_0 (R161): any READ ENTRY whose part byte is not 1. -/
  | readEntryPart0 (after : Nat) (req : Request) (table index part : Byte)
  /-- READ_ENTRY_PART_1 (R162). -/
  | readEntryPart1 (after : Nat) (req : Request) (table index : Byte)
  /-- WRITE_ROW_MAP_ENTRY (R38): the entry's 3 bytes, the first byte most significant. -/
  | writeRowMapEntry (after : Nat) (req : Request) (index : Byte) (entry : BitVec 24)
  /-- WRITE_ZONE_CONFIG (R62): the entry's 8 bytes. -/
  | writeZoneConfig (after : Nat) (req : Request) (index : Byte) (entry : BitVec 64)
  /-- WRITE_CHANNEL_CONFIG (R44): the entry's 3 bytes. -/
  | writeChannelConfig (after : Nat) (req : Request) (index : Byte) (entry : BitVec 24)
  /-- WRITE_TRUNK_GROUP_MAP (R26): the entry's 64-bit value. -/
  | writeTrunkGroupMap (after : Nat) (req : Request) (index : Byte) (entry : BitVec 64)
  /-- WRITE_EVENT_ROUTE (R158): the entry's 2 bytes. -/
  | writeEventRoute (after : Nat) (req : Request) (index : Byte) (entry : BitVec 16)
  /-- WRITE_SETTINGS (R45): the entry's 8 bytes. -/
  | writeSettings (after : Nat) (req : Request) (index : Byte) (entry : BitVec 64)
  /-- WRITE_ENTRY_READ_ONLY (R157): tables 4 and 8 to 10, or a table number outside 1 to 10. -/
  | writeEntryReadOnly (after : Nat) (req : Request) (table index : Byte)
  /-- LOAD_COEFFICIENTS (R159): the zone byte, the channel byte and the values. -/
  | loadCoefficients (after : Nat) (req : Request) (zone channelByte : Byte) (values : List (BitVec 16))
  /-- SET_ZONE_MODE_HOLD (R90): the zone byte and the mode byte. -/
  | setZoneModeHold (after : Nat) (req : Request) (zone mode : Byte)
  /-- SET_ZONE_MODE_MANUAL (R91). -/
  | setZoneModeManual (after : Nat) (req : Request) (zone mode : Byte)
  /-- SET_ZONE_MODE_TRACK (R92). -/
  | setZoneModeTrack (after : Nat) (req : Request) (zone mode : Byte)
  /-- TRIGGER_SCAN (R160). -/
  | triggerScan (after : Nat) (req : Request)
  /-- COMMIT (R166). -/
  | commit (after : Nat) (req : Request)
  /-- RESTART (R169). -/
  | restart (after : Nat) (req : Request)
  /-- READ_STATUS_PART_0 (R163): any READ STATUS whose part byte is not 1. -/
  | readStatusPart0 (after : Nat) (req : Request) (part : Byte)
  /-- READ_STATUS_PART_1 (R164). -/
  | readStatusPart1 (after : Nat) (req : Request)
  /-- UNKNOWN_OPERATION (R156): the operation code. -/
  | unknownOperation (after : Nat) (req : Request) (op : Byte)
  /-- WARM_RESTART (R170). -/
  | warmRestart (after : Nat)
  /-- STORE_WRITE_END (R167): what the store now holds. -/
  | storeWriteEnd (after : Nat) (found : ReadBack)
  /-- ROW_GAP_END (R113). -/
  | rowGapEnd (after : Nat)
  /-- LEVEL_FRAME_COMPLETE (R125). -/
  | levelFrameComplete (after : Nat)
  /-- FORWARD_FRAME_COMPLETE (R137). -/
  | forwardFrameComplete (after : Nat)
  /-- UNTAGGED_WINDOW_CLOSE (R137). -/
  | untaggedWindowClose (after : Nat) (reply : WindowReply)
  /-- ROW_STRAY_FRAME (R11, R113): line activity that is not the part's own begins, or has ended. -/
  | rowStrayFrame (after : Nat) (ended : Bool)
  /-- SCAN_QUERY_OUTCOME (R49). -/
  | scanQueryOutcome (after : Nat) (reply : WindowReply)
  /-- PERIODIC_TICK (R52). -/
  | periodicTick (after : Nat)
  /-- CONTINUOUS_RESTART (R53). -/
  | continuousRestart (after : Nat)
  /-- DEFERRED_QUERY_OUTCOME (R138). -/
  | deferredQueryOutcome (after : Nat) (reply : WindowReply)
  /-- DEFERRAL_DEADLINE (R139): the tag of the entry whose deadline is reached. -/
  | deferralDeadline (after : Nat) (tag : Tag)
  /-- VERIFY_INTERVAL_EXPIRY (R145). -/
  | verifyIntervalExpiry (after : Nat)
  /-- VERIFY_OUTCOME (R147). -/
  | verifyOutcome (after : Nat) (reply : WindowReply)
  /-- ALIGNMENT_OUTCOME (R152). -/
  | alignmentOutcome (after : Nat) (reply : WindowReply)
  /-- ALIGNMENT_HOLD_EXPIRY (R151). -/
  | alignmentHoldExpiry (after : Nat)
  /-- INTERVAL_SATURATION (R1). -/
  | intervalSaturation (after : Nat)
deriving DecidableEq, Repr

end Sys2Proof
end

