-- ==== Sys2Proof/Config.lean ====
section
/-! DEFINITION. The constants the manual fixes: link times in microseconds, capacities and limits. The manual leaves no value of this block open, so there is no free value here. -/

namespace Sys2Proof.Config

/-- One bit cell lasts 208 microseconds (01, Bit cells; R2). -/
def cellUs : Nat := 208

/-- An immediate answer begins 4 ms after the end of the request (R10). -/
def answerDelayUs : Nat := 4000

/-- The row gap after the last row activity, 4 ms (R12, R113). -/
def rowGapUs : Nat := 4000

/-- A reply window stays open 20 ms while no frame begins (R9). -/
def windowUs : Nat := 20000

/-- Trunk qualification of class 0, 24 ms (R13). -/
def qualificationUs : Nat := 24000

/-- Added qualification of each arbitration class, 3 ms (R13). -/
def classStepUs : Nat := 3000

/-- Added qualification of each segment number, 0.25 ms (R13). -/
def segmentStepUs : Nat := 250

/-- The supply must be below threshold for 20 ms to become ABSENT (R20). -/
def absentUs : Nat := 20000

/-- The supply must be above threshold for 200 ms to become PRESENT (R20). -/
def presentUs : Nat := 200000

/-- A store write lasts 600 ms (R167). -/
def storeWriteMs : Nat := 600

/-- A deferral's deadline is 500 ms after its acceptance (R134). -/
def deferralMs : Nat := 500

/-- An interval saturates at 2^31 ms (R1). -/
def intervalLimit : Nat := 2147483648

/-- The upstream queue holds up to 8 frames (R15). -/
def upstreamCapacity : Nat := 8

/-- The upstream queue holds up to 4 notices (R15). -/
def noticeCapacity : Nat := 4

/-- The forward queue holds up to 4 entries (R136). -/
def forwardCapacity : Nat := 4

/-- At most 8 tags are in use (R134, R135). -/
def tagCapacity : Nat := 8

/-- The starvation count stops at 6 (R120). -/
def starvationLimit : Nat := 6

/-- The longest payload of a frame (R4). -/
def maxPayload : Nat := 12

end Sys2Proof.Config
end

