-- ==== Sys2Proof/Machine/State.lean ====
section
/-! DEFINITION. Everything the spec gives the JD-640, as plain data, and the machine right after reset. -/

namespace Sys2Proof.Machine

/-- What stops the part with a fault: nothing does (INVENTORY, Faults), so no meaning raises one. Safe: an empty type allows no claim about a stop. -/
inductive Fault where
deriving DecidableEq, Repr

/-- What the model refuses. -/
inductive Refusal where
  /-- A command with no meaning yet, by the mnemonic of its row. Raised by an arm of Dispatch.lean alone; no arm does. Safe. -/
  | notModelled (mnemonic : String)
deriving DecidableEq, Repr

/-! ## Recorded times -/

/-- A recorded time: the clock reading, and whether 2^31 ms have passed since (R1). -/
structure Stamp where
  time : Clock
  saturated : Bool
deriving DecidableEq, Repr

/-! ## The row map (02) -/

/-- What the part knows of a driver's level (02, Shadow states). -/
inductive Shadow where
  | unknown | synced | pending | inFlight
deriving DecidableEq, Repr

/-- Verification result (R150). -/
inductive Health where
  | good | fault
deriving DecidableEq, Repr

/-- The dynamic fields of a row map entry (02, Entries; R24). -/
structure Lum where
  base : Nat
  baseFade : Fade
  output : Nat
  shadow : Shadow
  sent : Nat
  sentValid : Bool
  emissionFade : Fade
  urgent : Bool
  aligned : Bool
  health : Health
  mismatches : Nat
  misses : Nat
deriving DecidableEq, Repr

/-! ## Zones and channels (03, 04, 05) -/

/-- How the pass treats a zone (R82). -/
inductive ZoneMode where
  | unbound | track | hold | manual | failsafe
deriving DecidableEq, Repr

/-- The status fields of a zone (R63). -/
structure ZoneStatus where
  mode : ZoneMode
  ratio : Nat
  estimate : Nat
  lastPass : Stamp
  zeroSince : Option Stamp
  blind : Bool
  degraded : Bool
deriving DecidableEq, Repr

/-- How far a channel's reading can be trusted (03, Channel records). -/
inductive ChannelHealth where
  | unseen | fresh | suspect | stale
deriving DecidableEq, Repr

/-- The status fields of a channel (R43). -/
structure ChannelStatus where
  reading : Nat
  health : ChannelHealth
  missCount : Nat
  recoveryCount : Nat
  lastGood : Stamp
deriving DecidableEq, Repr

/-- The four states of the scan controller (03, The scan controller). -/
inductive ScanState where
  | idle | scanning | stopping | suspended
deriving DecidableEq, Repr

/-- The scan controller (03): the captured range `first` to `last`, the channel whose query is offered (`next`), the channel last queried in this scan, whether that query is on the row and whether its outcome is to be disregarded (R44), the start of the most recent scan, its urgent mark, rescan pending with its urgent mark, whether the periodic tick has occurred since that start (R52), and whether the last scan completed without a query (R53). -/
structure Scan where
  state : ScanState
  first : ChannelId
  last : ChannelId
  next : Option ChannelId
  lastQueried : Option ChannelId
  onRow : Bool
  disregard : Bool
  start : Stamp
  urgent : Bool
  pending : Bool
  pendingUrgent : Bool
  tickTaken : Bool
  emptyDone : Bool
deriving DecidableEq, Repr

/-! ## The row port (01, 07) -/

/-- The row power monitor (R20): its state, the side of the threshold the supply is on, and since when. -/
structure RowPower where
  present : Bool
  above : Bool
  since : Nat
deriving DecidableEq, Repr

/-- Whose frame is on the row (R114). -/
inductive RowOwner where
  | level | forward | scan (channel : ChannelId) | alignment | verify
deriving DecidableEq, Repr

/-- A frame of the part on the row, with its start. -/
structure RowFrame where
  frame : Frame
  owner : RowOwner
  since : Nat
deriving DecidableEq, Repr

/-- The row transmitter as stored (R113). `onRow` covers SENDING and AWAITING REPLY, which the time since the frame's start tells apart. -/
inductive RowTx where
  | powerless | gap | ready
  | onRow (f : RowFrame)
deriving DecidableEq, Repr

/-- The emission record (R124). -/
structure Emission where
  covered : List Addr
  level : Nat
deriving DecidableEq, Repr

/-! ## The query relay (08) -/

/-- A forward queue entry (08, State of the query relay). -/
structure FwdEntry where
  frame : Frame
  tag : Option Tag
  onRow : Bool
  unit : Byte
  deadline : Option Clock
deriving DecidableEq, Repr

/-- The outcome a DEFERRED REPLY reports (08, Outcomes of a deferral). -/
inductive DeferralOutcome where
  | answered | noAnswer | timeout | noPower
deriving DecidableEq, Repr

/-- A queued DEFERRED REPLY (R138). -/
structure DeferredReply where
  tag : Tag
  outcome : DeferralOutcome
  noisy : Bool
  data : List Byte
  unit : Byte
deriving DecidableEq, Repr

/-! ## Events and the upstream queue (01, 10) -/

/-- The cause a RESTARTED event names (R168, R170). -/
inductive RestartCause where
  | powerOn | defaults | warm
deriving DecidableEq, Repr

/-- The cause a LUMINAIRE FAULT event names (R149). -/
inductive FaultCause where
  | mismatch | miss
deriving DecidableEq, Repr

/-- The last result of a store write (R165). -/
inductive StoreResult where
  | none | done | failed
deriving DecidableEq, Repr

/-- An event with its subject and data (10, Events and notices). -/
inductive Event where
  | restarted (cause : RestartCause)
  | sensorStale (channel : ChannelId) (unit : Option Addr)
  | sensorRecovered (channel : ChannelId) (unit : Option Addr)
  | skyTransient (channel : ChannelId) (old new : Nat)
  | zoneFailsafeEntered (zone : ZoneId) (ratio estimate : Nat)
  | zoneFailsafeLeft (zone : ZoneId) (ratio estimate : Nat)
  | luminaireFault (unit : Addr) (cause : FaultCause) (level : Nat)
  | luminaireRecovered (unit : Addr) (level : Nat)
  | rowPowerLost
  | rowPowerRestored
  | storeResult (result : StoreResult)
deriving DecidableEq, Repr

/-- A queued NOTICE (01, The upstream queue; R171). -/
structure Notice where
  event : Event
  time : Clock
  priority : Nat
deriving DecidableEq, Repr

/-- A frame of the upstream queue (R15). -/
inductive UpItem where
  | deferred (d : DeferredReply)
  | notice (n : Notice)
deriving DecidableEq, Repr

/-- A place in the upstream queue: its frame, whether it is being transmitted, and whether a merge replaced its data meanwhile (R17). -/
structure UpEntry where
  item : UpItem
  sending : Bool
  merged : Bool
deriving DecidableEq, Repr

/-! ## The trunk port (01) -/

/-- The trunk transmitter: what it drives, and since when. `lostFlag` is the notices-lost flag the NOTICE being sent carries (R18). -/
inductive TrunkTx where
  | idle
  | answering (frame : Frame) (since : Nat)
  | sending (frame : Frame) (since : Nat) (lostFlag : Bool)
deriving DecidableEq, Repr

/-- An immediate answer that awaits its start, and the end of its request (R10). -/
structure Answer where
  frame : Frame
  requestEnd : Nat
deriving DecidableEq, Repr

/-- The seven port counters of R22. -/
structure Counters where
  trunkFraming : Nat
  trunkCheck : Nat
  arbitration : Nat
  rowFraming : Nat
  rowCheck : Nat
  noisy : Nat
  forwardDrops : Nat
deriving DecidableEq, Repr

/-! ## Verification, store, snapshot, restart (09, 10) -/

/-- The verify query on the row and the S it checks (R146). -/
structure VerifyRecord where
  addr : Addr
  level : Nat
deriving DecidableEq, Repr

/-- The alignment request on the row: its address, the zone its mask carries (R37), and whether a role change has made its outcome of no account (R38). -/
structure AlignRecord where
  addr : Addr
  zone : Option ZoneId
  disregard : Bool
deriving DecidableEq, Repr

/-- The verification unit (09, State of the verification unit). -/
structure Verify where
  pointer : Addr
  probe : Fin 8
  last : Stamp
  record : Option VerifyRecord
  alignPointer : Addr
  alignFail : Option Stamp
  alignRecord : Option AlignRecord
deriving DecidableEq, Repr

/-- A store write in progress (R166). -/
structure StoreWrite where
  image : StoreImage
  start : Stamp
deriving DecidableEq, Repr

/-- The store (10, The store): the nonvolatile image (none where it holds nothing that passes its check), the write in progress, the last result. -/
structure Store where
  image : Option StoreImage
  writing : Option StoreWrite
  last : StoreResult
deriving DecidableEq, Repr

/-- What the snapshot buffer holds (10, Reading entries). -/
inductive Capture where
  | entry (table index : Nat) (bytes : List Byte)
  | status (bytes : List Byte)
deriving DecidableEq, Repr

/-- Whether RESTART has scheduled a warm restart (R169). -/
inductive RestartPlan where
  | none | afterAnswer | due
deriving DecidableEq, Repr

/-! ## The state -/

/-- The whole JD-640, with the queue of the commands that are waiting. -/
structure State where
  /-- commands waiting, first in first out -/
  pending : List Instr
  /-- the segment clock (R1) -/
  clock : Clock
  /-- microseconds inside the present millisecond -/
  subMs : Nat
  /-- the ports' own time, microseconds since power-on (R1) -/
  portTime : Nat
  /-- segment number (R7) -/
  segment : Fin 16
  /-- tables 1 to 7 in working memory -/
  tables : Tables
  /-- dynamic fields of the row map (R24) -/
  lums : Vector Lum 64
  /-- the pending list (R35) -/
  pendingList : List Addr
  /-- zone status (R63) -/
  zones : Vector ZoneStatus 16
  /-- channel status (R43) -/
  channels : Vector ChannelStatus 8
  /-- scan controller (R46) -/
  scan : Scan
  /-- row power monitor (R20) -/
  power : RowPower
  /-- row transmitter (R113) -/
  rowTx : RowTx
  /-- time of the last row activity (R12) -/
  rowActivity : Nat
  /-- line activity on the row that is not the part's own is in progress (R113) -/
  rowForeign : Bool
  /-- starvation count (R120) -/
  starvation : Nat
  /-- lower-turn flag (R119) -/
  lowerTurn : Bool
  /-- emission record (R124) -/
  emission : Option Emission
  /-- forward queue, head first (R136) -/
  forward : List FwdEntry
  /-- last tag (R135) -/
  lastTag : Tag
  /-- tags in use, in order of allocation (R135) -/
  tagsInUse : List Tag
  /-- upstream queue, head first (R15) -/
  upstream : List UpEntry
  /-- notices-lost marker (R18) -/
  noticesLost : Bool
  /-- whether a notice was lost since the transmission in progress started (R18) -/
  lostSinceStart : Bool
  /-- trunk transmitter -/
  trunkTx : TrunkTx
  /-- immediate answer that awaits its start (R10) -/
  answer : Option Answer
  /-- since when the trunk is idle; none while the line is active (R13) -/
  trunkIdle : Option Nat
  /-- port counters (R22) -/
  counters : Counters
  /-- verification unit (R144) -/
  verify : Verify
  /-- store (R165) -/
  store : Store
  /-- snapshot buffer (R161) -/
  snapshot : Option Capture
  /-- scheduled warm restart (R169) -/
  restart : RestartPlan
deriving DecidableEq, Repr

/-! ## Values after power-on -/

/-- A time recorded as 0. -/
def Stamp.zero : Stamp := ⟨0, false⟩

/-- The default tables of R168 (R23, R42, R62, R64, R26, R158 and the settings table). -/
def defaultTables : Tables where
  rowMap := Vector.replicate 64 ⟨.absent, none, 10⟩
  zones := Vector.replicate 16 ⟨false, 0, 400, 30, 15, false, 600, 5⟩
  channels := Vector.replicate 8 ⟨none, 0⟩
  coeffs := Vector.replicate 16 (Vector.replicate 8 0)
  groups := Vector.replicate 16 0
  routes := #v[⟨7, false⟩, ⟨3, false⟩, ⟨2, true⟩, ⟨0, true⟩, ⟨6, false⟩, ⟨4, false⟩,
    ⟨4, false⟩, ⟨2, false⟩, ⟨7, false⟩, ⟨5, false⟩, ⟨2, false⟩]
  settings := ⟨0, 7, .periodic, 2000, none, 250, 3, 3, 1000⟩

/-- A row map entry's dynamic fields after power-on (R41). -/
def Lum.initial : Lum :=
  ⟨1000, 0, 1000, .unknown, 0, false, 0, false, false, .good, 0, 0⟩

/-- A zone's status after power-on when it is not in use (R63). -/
def ZoneStatus.initial : ZoneStatus := ⟨.unbound, 1000, 0, .zero, none, false, false⟩

/-- A channel's status after a restart (R43). -/
def ChannelStatus.initial : ChannelStatus := ⟨0, .unseen, 0, 0, .zero⟩

/-- The scan controller after a restart without row power (R46). -/
def Scan.initial : Scan :=
  ⟨.suspended, 0, 7, none, none, false, false, .zero, false, false, false, false, false⟩

/-- The counters after a restart (R22). -/
def Counters.zero : Counters := ⟨0, 0, 0, 0, 0, 0, 0⟩

/-- The verification unit after a restart (R144). -/
def Verify.initial : Verify := ⟨0, 0, .zero, none, 0, none, none⟩

/-- The part right after power-on with a store that fails its check, straps at 0 and the row supply below its threshold (R168; log entry 4): every block at its power-on value, and the RESTARTED notice of cause DEFAULTS queued. -/
def State.reset : State where
  pending := []
  clock := 0
  subMs := 0
  portTime := 0
  segment := 0
  tables := defaultTables
  lums := Vector.replicate 64 .initial
  pendingList := []
  zones := Vector.replicate 16 .initial
  channels := Vector.replicate 8 .initial
  scan := .initial
  power := ⟨false, false, 0⟩
  rowTx := .powerless
  rowActivity := 0
  rowForeign := false
  starvation := 0
  lowerTurn := false
  emission := none
  forward := []
  lastTag := 15
  tagsInUse := []
  upstream := [⟨.notice ⟨.restarted .defaults, 0, 7⟩, false, false⟩]
  noticesLost := false
  lostSinceStart := false
  trunkTx := .idle
  answer := none
  trunkIdle := some 0
  counters := .zero
  verify := .initial
  store := ⟨none, none, .none⟩
  snapshot := none
  restart := .none

end Sys2Proof.Machine
end

