-- ==== Sys2Proof/Machine/Operands.lean ====
section
/-! DEFINITION. The byte layouts of 11_frame_and_entry_formats: check bytes, frames, table entries as read and as written, and the codes of their fields. -/

namespace Sys2Proof

open Machine

/-! ## Bytes -/

/-- The low byte of a number. -/
def byte (n : Nat) : Byte := BitVec.ofNat 8 n

/-- A 16-bit value, most significant byte first (R174). -/
def bytes16 (n : Nat) : List Byte := [byte (n / 256), byte n]

/-- A 32-bit value, most significant byte first (R174). -/
def bytes32 (n : Nat) : List Byte :=
  [byte (n / 16777216), byte (n / 65536), byte (n / 256), byte n]

/-- A 12-bit pair (R174). -/
def pair12 (a b : Nat) : List Byte := [byte (a / 16), byte (a % 16 * 16 + b / 256), byte b]

/-- The bytes of a 64-bit value, most significant first (R174). -/
def bytes64 (v : BitVec 64) : List Byte :=
  [56, 48, 40, 32, 24, 16, 8, 0].map fun k => BitVec.ofNat 8 (v.toNat / 2 ^ k)

/-- A flag bit at a position. -/
def flagBit (b : Bool) (position : Nat) : Nat := if b then 2 ^ position else 0

/-- Byte `i` of a written entry of `n` bytes, counted from the first byte on the link. -/
def entryByte {w : Nat} (n : Nat) (e : BitVec w) (i : Nat) : Nat :=
  e.toNat / 256 ^ (n - 1 - i) % 256

/-- The number that bytes spell, most significant first (R174). -/
def bytesValue (bs : List Byte) : Nat := bs.foldl (fun n b => n * 256 + b.toNat) 0

/-- The 16-bit value at a place in a payload (R174). -/
def payload16 (p : List Byte) (i : Nat) : Nat :=
  (p.getD i 0).toNat * 256 + (p.getD (i + 1) 0).toNat

/-! ## Check codes -/

/-- One shift of the CRC-8 register (R173). -/
def crc8Shift (r : Byte) : Byte := if r.msb then (r <<< 1) ^^^ 0x07 else r <<< 1

/-- One byte enters the CRC-8 register (R173). -/
def crc8Byte (r b : Byte) : Byte :=
  crc8Shift (crc8Shift (crc8Shift (crc8Shift
    (crc8Shift (crc8Shift (crc8Shift (crc8Shift (r ^^^ b))))))))

/-- The check byte over bytes in the order sent (R173). -/
def crc8 (bs : List Byte) : Byte := bs.foldl crc8Byte 0

/-- One shift of the CRC-16 register, generator x^16 + x^12 + x^5 + 1 (R165). -/
def crc16Shift (r : BitVec 16) : BitVec 16 := if r.msb then (r <<< 1) ^^^ 0x1021 else r <<< 1

/-- One byte enters the CRC-16 register, most significant bit first (log entry 7). -/
def crc16Byte (r : BitVec 16) (b : Byte) : BitVec 16 :=
  crc16Shift (crc16Shift (crc16Shift (crc16Shift
    (crc16Shift (crc16Shift (crc16Shift (crc16Shift (r ^^^ (b.zeroExtend 16 <<< 8)))))))))

/-- CRC-16 from the initial value 0xFFFF (R165). -/
def crc16 (bs : List Byte) : BitVec 16 := bs.foldl crc16Byte 0xFFFF

/-! ## Frames -/

/-- The kind code (11, The frame). -/
def kindCode : FrameKind → Nat
  | .setLevel => 1
  | .query => 2
  | .reply => 3
  | .deviceConfig => 4
  | .manage => 5
  | .response => 6
  | .deferredReply => 7
  | .notice => 8

/-- The kind of a code; 0 and 9 to 15 are invalid (11, The frame). -/
def kindOfCode : Nat → Option FrameKind
  | 1 => some .setLevel
  | 2 => some .query
  | 3 => some .reply
  | 4 => some .deviceConfig
  | 5 => some .manage
  | 6 => some .response
  | 7 => some .deferredReply
  | 8 => some .notice
  | _ => none

/-- The bytes under the check: header, segment, unit, payload (R4). -/
def Frame.body (f : Frame) : List Byte :=
  byte (kindCode f.kind * 16 + f.payload.length) :: f.segment :: f.unit :: f.payload

/-- All bytes of a frame, in the order sent (R4). -/
def Frame.bytes (f : Frame) : List Byte := f.body ++ [crc8 f.body]

/-- The time from the start of the start cell to the end of the frame: 3 + 8 x (4 + n) cells (R4). -/
def Frame.time (f : Frame) : Nat := (3 + 8 * (4 + f.payload.length)) * Config.cellUs

/-- A row frame of the part opens a reply window: a QUERY or DEVICE CONFIG to one unit (R9). -/
def Frame.opensWindow (f : Frame) : Bool :=
  (f.kind == .query || f.kind == .deviceConfig) && decide (f.unit.toNat < 64)

/-- A DEVICE CONFIG of sub-kind SET GROUPS (11, The frame). -/
def Frame.isSetGroups (f : Frame) : Bool :=
  f.kind == .deviceConfig && f.payload.head? == some 1

/-- The unit byte of a target (00, Addresses). -/
def Target.byte : Target → Byte
  | .unit a => BitVec.ofNat 8 a.val
  | .group g => BitVec.ofNat 8 (64 + g.val)
  | .all => 127

/-- The target a unit byte names, if it names one (00, Addresses). -/
def targetOf (u : Nat) : Option Target :=
  if h : u < 64 then some (.unit ⟨u, h⟩)
  else if h : u < 80 then some (.group ⟨u - 64, by omega⟩)
  else if u = 127 then some .all
  else none

/-- The length of a written entry, by its table; other tables take no entry bytes (R175; 11, Table entries). -/
def writeEntryLength : Nat → Nat
  | 1 => 3
  | 2 => 8
  | 3 => 3
  | 5 => 8
  | 6 => 2
  | 7 => 8
  | _ => 0

/-- The payload a MANAGE frame requires, by its operation (R175 and the operations table). -/
def requiredManage (p : List Byte) : Nat :=
  match (p.getD 0 0).toNat with
  | 1 => 5
  | 2 => 4 + writeEntryLength (p.getD 2 0).toNat
  | 3 => 4 + 2 * ((p.getD 3 0).toNat / 16 % 4 + 1)
  | 4 => 4
  | 8 => 3
  | _ => 2

/-- The payload a trunk frame requires (R175). -/
def requiredTrunk (k : FrameKind) (p : List Byte) : Nat :=
  match k with
  | .setLevel => 3
  | .query => 1
  | .deviceConfig => if p.head? = some 1 then 3 else 1
  | .manage => requiredManage p
  | _ => 0

/-- The payload a row REPLY requires, measured against the request (R175). -/
def requiredReply (request : Frame) : Nat :=
  match request.kind with
  | .deviceConfig => 1
  | .query =>
    match (request.payload.getD 0 0).toNat with
    | 1 => 2
    | 8 => 3
    | _ => 0
  | _ => 0

/-! ## Response statuses -/

/-- The statuses of a RESPONSE (11, MANAGE and RESPONSE). -/
inductive Status where
  | ok | accepted | deferred | busy | range | refused | owned | unknownOperation
deriving DecidableEq, Repr

/-- The status code (11, MANAGE and RESPONSE). -/
def statusCode : Status → Nat
  | .ok => 0
  | .accepted => 1
  | .deferred => 2
  | .busy => 3
  | .range => 4
  | .refused => 5
  | .owned => 6
  | .unknownOperation => 7

/-! ## Field codes -/

/-- ABSENT 0, LUMINAIRE 1, SENSOR 2 (11, Table entries). -/
def roleCode : Role → Nat
  | .absent => 0
  | .luminaire => 1
  | .sensor => 2

/-- The role of a code; any other code is out of range. -/
def roleOfCode : Nat → Option Role
  | 0 => some .absent
  | 1 => some .luminaire
  | 2 => some .sensor
  | _ => none

/-- A zone field: 0 to 15, NONE 255 (11, Table entries). -/
def zoneCode : Option ZoneId → Nat
  | none => 255
  | some z => z.val

/-- The zone of a field's code. -/
def zoneOfCode (n : Nat) : Option (Option ZoneId) :=
  if h : n < 16 then some (some ⟨n, h⟩) else if n = 255 then some none else none

/-- A sensor unit field: 0 to 63, NONE 255 (11, Table entries). -/
def unitCode : Option Addr → Nat
  | none => 255
  | some a => a.val

/-- The sensor unit of a field's code. -/
def unitOfCode (n : Nat) : Option (Option Addr) :=
  if h : n < 64 then some (some ⟨n, h⟩) else if n = 255 then some none else none

/-- OFF 0, PERIODIC 1, CONTINUOUS 2 (11, Table entries). -/
def scanModeCode : ScanMode → Nat
  | .off => 0
  | .periodic => 1
  | .continuous => 2

/-- The scan mode of a code; 3 is out of range. -/
def scanModeOfCode : Nat → Option ScanMode
  | 0 => some .off
  | 1 => some .periodic
  | 2 => some .continuous
  | _ => none

/-- The sky channel's 4-bit code: 0 to 7, NONE 15 (11, Table entries). -/
def skyCode : Option ChannelId → Nat
  | none => 15
  | some c => c.val

/-- The sky channel of a 4-bit code; 8 to 14 are out of range. -/
def skyOfCode (n : Nat) : Option (Option ChannelId) :=
  if h : n < 8 then some (some ⟨n, h⟩) else if n = 15 then some none else none

/-- UNBOUND 0, TRACK 1, HOLD 2, MANUAL 3, FAILSAFE 4 (11, Table entries). -/
def zoneModeCode : ZoneMode → Nat
  | .unbound => 0
  | .track => 1
  | .hold => 2
  | .manual => 3
  | .failsafe => 4

/-- UNSEEN 0, FRESH 1, SUSPECT 2, STALE 3 (11, Table entries). -/
def channelHealthCode : ChannelHealth → Nat
  | .unseen => 0
  | .fresh => 1
  | .suspect => 2
  | .stale => 3

/-- UNKNOWN 0, SYNCED 1, PENDING 2, IN FLIGHT 3 (11, Table entries). -/
def shadowCode : Shadow → Nat
  | .unknown => 0
  | .synced => 1
  | .pending => 2
  | .inFlight => 3

/-- IDLE 0, SCANNING 1, STOPPING 2, SUSPENDED 3 (11, MANAGE and RESPONSE). -/
def scanStateCode : ScanState → Nat
  | .idle => 0
  | .scanning => 1
  | .stopping => 2
  | .suspended => 3

/-- NONE 0, DONE 1, FAILED 2 (11, MANAGE and RESPONSE). -/
def storeResultCode : StoreResult → Nat
  | .none => 0
  | .done => 1
  | .failed => 2

/-- ANSWERED 0, NO ANSWER 1, TIMEOUT 2, NO POWER 3 (11, REPLY, DEFERRED REPLY and NOTICE). -/
def outcomeCode : DeferralOutcome → Nat
  | .answered => 0
  | .noAnswer => 1
  | .timeout => 2
  | .noPower => 3

/-! ## Ranges of the configuration fields -/

/-- P_min 1 to 250 (R23). -/
def RowConfig.inRange (r : RowConfig) : Bool := decide (1 ≤ r.pmin ∧ r.pmin ≤ 250)

/-- The ranges of the zone record (R62). -/
def ZoneConfig.inRange (z : ZoneConfig) : Bool :=
  decide (z.target ≤ 2000 ∧ 1 ≤ z.slewUp ∧ z.slewUp ≤ 1000 ∧ 1 ≤ z.slewDown ∧
    z.slewDown ≤ 1000 ∧ z.deadBand ≤ 100 ∧ z.offDwell ≤ 3600)

/-- k 0 to 4095 (R42). -/
def ChannelConfig.inRange (c : ChannelConfig) : Bool := decide (c.k ≤ 4095)

/-- Priority 0 to 7 (R158). -/
def Route.inRange (r : Route) : Bool := decide (r.priority ≤ 7)

/-- The ranges of the settings record (10, Tables); the last channel is not below the first (R157). -/
def Settings.inRange (t : Settings) : Bool :=
  decide (t.first.val ≤ t.last.val ∧ 250 ≤ t.period ∧ t.period ≤ 60000 ∧
    50 ≤ t.threshold ∧ t.threshold ≤ 1000 ∧ 1 ≤ t.staleLimit ∧ t.staleLimit ≤ 15 ∧
    1 ≤ t.recoverLimit ∧ t.recoverLimit ≤ 15 ∧ 200 ≤ t.verifyInterval ∧ t.verifyInterval ≤ 60000)

/-- Every field of tables 1 to 7 is within its range (R165). -/
def Tables.inRange (t : Tables) : Bool :=
  t.rowMap.toList.all RowConfig.inRange && t.zones.toList.all ZoneConfig.inRange &&
  t.channels.toList.all ChannelConfig.inRange &&
  t.coeffs.toList.all (fun r => r.toList.all fun c => decide (c ≤ 4095)) &&
  t.routes.toList.all Route.inRange && t.settings.inRange

/-! ## Entries as written (11, Table entries) -/

/-- A written row map entry, if its fields are in range. -/
def parseRow (e : BitVec 24) : Option RowConfig :=
  match roleOfCode (entryByte 3 e 0), zoneOfCode (entryByte 3 e 1) with
  | some role, some zone =>
    let r : RowConfig := ⟨role, zone, entryByte 3 e 2⟩
    if r.inRange then some r else none
  | _, _ => none

/-- The upper value of a 12-bit pair at byte `i` of an entry of `n` bytes (R174). -/
def pairHigh {w : Nat} (n : Nat) (e : BitVec w) (i : Nat) : Nat :=
  entryByte n e i * 16 + entryByte n e (i + 1) / 16

/-- The lower value of a 12-bit pair at byte `i` of an entry of `n` bytes (R174). -/
def pairLow {w : Nat} (n : Nat) (e : BitVec w) (i : Nat) : Nat :=
  entryByte n e (i + 1) % 16 * 256 + entryByte n e (i + 2)

/-- A written zone entry, if its fields are in range. -/
def parseZone (e : BitVec 64) : Option ZoneConfig :=
  let z : ZoneConfig :=
    { inUse := entryByte 8 e 0 / 128 % 2 == 1
      switchOff := entryByte 8 e 0 / 64 % 2 == 1
      trimFade := Fin.ofNat 16 (entryByte 8 e 0)
      deadBand := entryByte 8 e 1
      target := pairHigh 8 e 2
      slewUp := pairLow 8 e 2
      slewDown := pairHigh 8 e 5
      offDwell := pairLow 8 e 5 }
  if z.inRange then some z else none

/-- A written channel entry, if its fields are in range. -/
def parseChannel (e : BitVec 24) : Option ChannelConfig :=
  match unitOfCode (entryByte 3 e 0) with
  | some unit =>
    let c : ChannelConfig := ⟨unit, entryByte 3 e 1 * 256 + entryByte 3 e 2⟩
    if c.inRange then some c else none
  | none => none

/-- A written event route entry, if its fields are in range. -/
def parseRoute (e : BitVec 16) : Option Route :=
  let r : Route := ⟨entryByte 2 e 0, entryByte 2 e 1 == 1⟩
  if r.inRange && decide (entryByte 2 e 1 ≤ 1) then some r else none

/-- A channel number of a 4-bit field, if it is 0 to 7. -/
def channelOfCode (n : Nat) : Option ChannelId := if h : n < 8 then some ⟨n, h⟩ else none

/-- A written settings record, if its fields are in range. -/
def parseSettings (e : BitVec 64) : Option Settings :=
  match channelOfCode (entryByte 8 e 0 / 16), channelOfCode (entryByte 8 e 0 % 16),
    scanModeOfCode (entryByte 8 e 2 / 64), skyOfCode (entryByte 8 e 2 % 16) with
  | some first, some last, some mode, some sky =>
    let t : Settings :=
      { first := first, last := last, mode := mode, sky := sky
        staleLimit := entryByte 8 e 1 / 16
        recoverLimit := entryByte 8 e 1 % 16
        threshold := entryByte 8 e 2 / 16 % 4 * 256 + entryByte 8 e 7
        period := entryByte 8 e 3 * 256 + entryByte 8 e 4
        verifyInterval := entryByte 8 e 5 * 256 + entryByte 8 e 6 }
    if t.inRange then some t else none
  | _, _, _, _ => none

/-! ## Entries as read (11, Table entries) -/

/-- Table 1. -/
def rowBytes (r : RowConfig) : List Byte :=
  [byte (roleCode r.role), byte (zoneCode r.zone), byte r.pmin]

/-- Table 2. -/
def zoneBytes (z : ZoneConfig) : List Byte :=
  [byte (flagBit z.inUse 7 + flagBit z.switchOff 6 + z.trimFade.val), byte z.deadBand] ++
    pair12 z.target z.slewUp ++ pair12 z.slewDown z.offDwell

/-- Table 3. -/
def channelBytes (c : ChannelConfig) : List Byte := byte (unitCode c.unit) :: bytes16 c.k

/-- Table 4. -/
def coeffBytes (r : Vector Nat 8) : List Byte := r.toList.flatMap bytes16

/-- Table 6. -/
def routeBytes (r : Route) : List Byte := [byte r.priority, byte (flagBit r.rescan 0)]

/-- Table 7. -/
def settingsBytes (t : Settings) : List Byte :=
  [byte (t.first.val * 16 + t.last.val), byte (t.staleLimit * 16 + t.recoverLimit),
    byte (scanModeCode t.mode * 64 + t.threshold / 256 * 16 + skyCode t.sky)] ++
    bytes16 t.period ++ bytes16 t.verifyInterval ++ [byte t.threshold]

/-- The bytes a store image's CRC-16 runs over: tables 1 to 7 in order, entries ascending, as they are read (log entry 7). -/
def Tables.bytes (t : Tables) : List Byte :=
  t.rowMap.toList.flatMap rowBytes ++ t.zones.toList.flatMap zoneBytes ++
  t.channels.toList.flatMap channelBytes ++ t.coeffs.toList.flatMap coeffBytes ++
  t.groups.toList.flatMap bytes64 ++ t.routes.toList.flatMap routeBytes ++
  settingsBytes t.settings

/-- The image of these tables, with the CRC-16 computed over them (R165, R166). -/
def imageOf (t : Tables) : StoreImage := ⟨t, crc16 t.bytes⟩

/-- An image passes its check: its CRC is right and every field is in range (R165). -/
def StoreImage.passes (i : StoreImage) : Bool :=
  i.tables.inRange && i.crc == crc16 i.tables.bytes

end Sys2Proof
end

