-- ==== Sys2Proof/Machine/Ops.lean ====
section
/-! DEFINITION. The named operations every family uses: time and intervals, accessors of the tables, counters, row and trunk activity. -/

namespace Sys2Proof.Machine

/-! ## Time (R1) -/

/-- `us` microseconds pass: the segment clock counts whole milliseconds and wraps (R1); the ports measure in their own time. -/
def passTime (us : Nat) (s : State) : State :=
  { s with
    clock := s.clock + BitVec.ofNat 32 ((s.subMs + us) / 1000)
    subMs := (s.subMs + us) % 1000
    portTime := s.portTime + us }

/-- The interval from a recorded time in milliseconds: the unsigned difference of the readings modulo 2^32, saturating at 2^31 (R1). -/
def Stamp.interval (t : Stamp) (now : Clock) : Nat :=
  if t.saturated then Config.intervalLimit
  else min (now - t.time).toNat Config.intervalLimit

/-- A time recorded now. -/
def State.stamp (s : State) : Stamp := ⟨s.clock, false⟩

/-- A recorded time that 2^31 ms have passed since is saturated (R1). -/
def Stamp.saturate (now : Clock) (t : Stamp) : Stamp :=
  { t with saturated := decide (Config.intervalLimit ≤ t.interval now) }

/-! ## Accessors -/

/-- All short addresses, ascending. -/
def addresses : List Addr := List.finRange 64

/-- All zones, ascending. -/
def zoneIds : List ZoneId := List.finRange 16

/-- All channels, ascending. -/
def channelIds : List ChannelId := List.finRange 8

/-- A row map entry's configuration. -/
def State.row (s : State) (a : Addr) : RowConfig := s.tables.rowMap[a.val]

/-- A row map entry's dynamic fields. -/
def State.lum (s : State) (a : Addr) : Lum := s.lums[a.val]

/-- A zone's configuration. -/
def State.zoneConfig (s : State) (z : ZoneId) : ZoneConfig := s.tables.zones[z.val]

/-- A zone's status. -/
def State.zone (s : State) (z : ZoneId) : ZoneStatus := s.zones[z.val]

/-- A channel's configuration. -/
def State.channelConfig (s : State) (c : ChannelId) : ChannelConfig := s.tables.channels[c.val]

/-- A channel's status. -/
def State.channel (s : State) (c : ChannelId) : ChannelStatus := s.channels[c.val]

/-- A coefficient c[z][c] (R64). -/
def State.coeff (s : State) (z : ZoneId) (c : ChannelId) : Nat := s.tables.coeffs[z.val][c.val]

/-- The settings record. -/
def State.settings (s : State) : Settings := s.tables.settings

/-- Put a row map entry's dynamic fields. -/
def State.setLum (s : State) (a : Addr) (l : Lum) : State :=
  { s with lums := s.lums.set a.val l }

/-- Put a zone's status. -/
def State.setZone (s : State) (z : ZoneId) (v : ZoneStatus) : State :=
  { s with zones := s.zones.set z.val v }

/-- Put a channel's status. -/
def State.setChannel (s : State) (c : ChannelId) (v : ChannelStatus) : State :=
  { s with channels := s.channels.set c.val v }

/-- The entry has role LUMINAIRE. -/
def State.isLum (s : State) (a : Addr) : Bool := (s.row a).role == .luminaire

/-- The LUMINAIRE entries in ascending order. -/
def State.luminaires (s : State) : List Addr := addresses.filter s.isLum

/-- The segment is HARVESTING while an entry is a LUMINAIRE, and REPEATER otherwise (R25). -/
def State.harvesting (s : State) : Bool := addresses.any s.isLum

/-- The LUMINAIRE entries of a zone, ascending. -/
def State.members (s : State) (z : ZoneId) : List Addr :=
  addresses.filter fun a => s.isLum a && (s.row a).zone == some z

/-- The part's own segment byte (R7). -/
def State.segmentByte (s : State) : Byte := BitVec.ofNat 8 s.segment.val

/-! ## Counters (R22) -/

/-- One more, saturating at 255. -/
def bump (n : Nat) : Nat := min (n + 1) 255

/-- Count a trunk framing error. -/
def countTrunkFraming (s : State) : State :=
  { s with counters := { s.counters with trunkFraming := bump s.counters.trunkFraming } }

/-- Count a trunk check error. -/
def countTrunkCheck (s : State) : State :=
  { s with counters := { s.counters with trunkCheck := bump s.counters.trunkCheck } }

/-- Count an arbitration loss. -/
def countArbitration (s : State) : State :=
  { s with counters := { s.counters with arbitration := bump s.counters.arbitration } }

/-- Count a row framing error. -/
def countRowFraming (s : State) : State :=
  { s with counters := { s.counters with rowFraming := bump s.counters.rowFraming } }

/-- Count a row check error. -/
def countRowCheck (s : State) : State :=
  { s with counters := { s.counters with rowCheck := bump s.counters.rowCheck } }

/-- Count a noisy row reply. -/
def countNoisy (s : State) : State :=
  { s with counters := { s.counters with noisy := bump s.counters.noisy } }

/-- Count a forward drop. -/
def countForwardDrop (s : State) : State :=
  { s with counters := { s.counters with forwardDrops := bump s.counters.forwardDrops } }

/-! ## The trunk line -/

/-- The warm restart that a RESTART answer holds back falls due when that answer is over (R169). -/
def answerOver (s : State) : State :=
  { s with restart := if s.restart = .afterAnswer then .due else s.restart }

/-- The trunk line leaves idle: a wait in progress ends (R13), and an answer whose 4 ms have not run out is abandoned and counted as an arbitration loss (R10). -/
def lineActivity (s : State) : State :=
  match s.answer with
  | none => { s with trunkIdle := none }
  | some _ => answerOver (countArbitration { s with trunkIdle := none, answer := none })

/-- A trunk frame has been received to its end: the line was active, and is idle from now (R13). -/
def frameHeard (s : State) : State :=
  { lineActivity s with trunkIdle := some s.portTime }

/-- A trunk frame ends `after` microseconds after the event before it. -/
def trunkFrameEnd (after : Nat) (s : State) : State := frameHeard (passTime after s)

/-- Hand the trunk transmitter an immediate answer to the request that ends now (R10). -/
def answerWith (f : Frame) (s : State) : State :=
  { s with answer := some ⟨f, s.portTime⟩ }

/-! ## The row line -/

/-- Row activity ends now, and the row gap runs from here (R12, R113). -/
def enterGap (s : State) : State :=
  { s with rowTx := .gap, rowActivity := s.portTime }

end Sys2Proof.Machine
end

