-- ==== Sys2Proof/Machine/Link.lean ====
section
/-! DEFINITION. The lighting link: bit cells and their samples, what a receiver makes of them, and what a received frame is to the trunk port and to a row reply window. -/

namespace Sys2Proof.Machine

/-! ## Bit cells (R2, R3, R4) -/

/-- The three samples of one half-cell; true is high. -/
structure HalfCell where
  a : Bool
  b : Bool
  c : Bool
deriving DecidableEq, Repr

/-- A cell: its two halves as sampled. -/
abbrev Cell := HalfCell × HalfCell

/-- The level held by at least two of the three samples (R3). -/
def HalfCell.level (h : HalfCell) : Bool := (h.a && h.b) || (h.a && h.c) || (h.b && h.c)

/-- The samples of a half-cell are not all equal (R3). -/
def HalfCell.noisy (h : HalfCell) : Bool := h.a != h.b || h.b != h.c

/-- A good cell's bit is the level of its second half; a cell without mid-cell transition has none (R3). -/
def cellBit (c : Cell) : Option Bool :=
  if c.1.level = c.2.level then none else some c.2.level

/-- The whole bytes of a run of cells, least significant bit first, and whether the run breaks off: at a cell without mid-cell transition, or inside a byte (R4, R5). `count` bits of the present byte, worth `value`, have been received. -/
def bytesOfCells : List Cell → Nat → Nat → List Byte × Bool
  | [], 0, _ => ([], false)
  | [], _ + 1, _ => ([], true)
  | c :: cs, count, value =>
    match cellBit c with
    | none => ([], true)
    | some b =>
      let v := value + flagBit b count
      if count = 7 then
        let r := bytesOfCells cs 0 0
        (byte v :: r.1, r.2)
      else bytesOfCells cs (count + 1) v

/-- What a receiver has of the cells of one stretch of line activity, the start cell first and the two idle cells that end it left off (R2 to R5). -/
def receive (line : List Cell) : Reception :=
  let noise := line.any fun c => c.1.noisy || c.2.noisy
  match line with
  | [] => ⟨[], true, noise⟩
  | start :: cells =>
    if cellBit start = some true then
      let r := bytesOfCells cells 0 0
      ⟨r.1, r.2, noise⟩
    else ⟨[], true, noise⟩

/-- The two half-cell levels of a bit: 1 is low then high, 0 is high then low (R2). -/
def driveBit (b : Bool) : Bool × Bool := (!b, b)

/-- The bits of a byte in the order sent, least significant first (R4). -/
def bitsOfByte (b : Byte) : List Bool := [0, 1, 2, 3, 4, 5, 6, 7].map fun k => b.getLsbD k

/-- The half-cell levels a transmitter drives for bytes: the start cell, coded as a 1, then the bytes (R2, R4). -/
def driveBytes (bs : List Byte) : List (Bool × Bool) :=
  driveBit true :: (bs.flatMap bitsOfByte).map driveBit

/-- Undisturbed samples of a driven cell. -/
def cleanCell (c : Bool × Bool) : Cell := (⟨c.1, c.1, c.1⟩, ⟨c.2, c.2, c.2⟩)

/-- The samples of a frame that no other party disturbs. -/
def Line.clean (f : Frame) : List Cell := (driveBytes f.bytes).map cleanCell

/-- The transmitter's comparison of the half-cells it drives with those it samples (R14): true at the first difference. -/
def arbitrationMismatch (driven sampled : List Bool) : Bool :=
  (driven.zip sampled).any fun p => p.1 != p.2

/-! ## Received frames (R5, R6) -/

/-- A received frame after the framing and check tests. -/
inductive Checked where
  | framing
  | check
  | good (kind : Nat) (segment unit : Byte) (payload : List Byte)
deriving DecidableEq, Repr

/-- The framing and check tests of R5. -/
def checkFrame (rx : Reception) : Checked :=
  match rx.bytes with
  | h :: seg :: unit :: rest =>
    if rx.broken = true ∨ 12 < h.toNat % 16 ∨ rest.length ≠ h.toNat % 16 + 1 then .framing
    else if crc8 (h :: seg :: unit :: rest.dropLast) ≠ rest.getLastD 0 then .check
    else .good (h.toNat / 16) seg unit rest.dropLast
  | _ => .framing

/-- What becomes of a frame received on the trunk (R5 to R8). -/
inductive TrunkVerdict where
  | ignored
  | framing
  | check
  | discarded
  | delivered (f : Frame)
deriving DecidableEq, Repr

/-- The kinds that have meaning on the trunk (R6). -/
def meansOnTrunk : FrameKind → Bool
  | .setLevel => true
  | .query => true
  | .deviceConfig => true
  | .manage => true
  | .reply => false
  | .response => false
  | .deferredReply => false
  | .notice => false

/-- The unit bytes 0 to 79, 126 and 127 (R6). -/
def knownUnit (u : Nat) : Bool := decide (u < 80) || u == 126 || u == 127

/-- The forms discarded by the table of R8. -/
def excludedForm (f : Frame) : Bool :=
  match f.kind with
  | .setLevel => f.unit == 126
  | .query => decide (64 ≤ f.unit.toNat) || f.segment == 255
  | .deviceConfig => f.unit == 126
  | .manage => f.unit != 126
  | _ => true

/-- The tests of R6 and R8 on a frame without framing or check error. -/
def sortTrunkFrame (kind : Nat) (segment unit : Byte) (payload : List Byte) : TrunkVerdict :=
  match kindOfCode kind with
  | none => .framing
  | some k =>
    if meansOnTrunk k = false then .framing
    else if knownUnit unit.toNat = false then .discarded
    else if payload.length < requiredTrunk k payload then .framing
    else if excludedForm ⟨k, segment, unit, payload⟩ then .discarded
    else .delivered ⟨k, segment, unit, payload⟩

/-- What becomes of a frame received on the trunk of segment `own`: a frame of a foreign segment is ignored from the end of its unit byte onward, so a fault up to there counts whatever the segment (R7); the rest by R5, R6 and R8 in the order of log entry 12. -/
def trunkVerdict (own : Byte) (rx : Reception) : TrunkVerdict :=
  match rx.bytes with
  | h :: seg :: _ :: _ =>
    if 12 < h.toNat % 16 then .framing
    else if seg ≠ own ∧ seg ≠ 255 then .ignored
    else
      match checkFrame rx with
      | .framing => .framing
      | .check => .check
      | .good kind segment unit payload => sortTrunkFrame kind segment unit payload
  | _ => .framing

/-! ## Row reply windows (R11) -/

/-- The outcome of a row reply window (R11); a bad frame with the counter its fault takes. -/
inductive WindowOutcome where
  | clean (payload : List Byte)
  | noisy (payload : List Byte)
  | badFraming
  | badCheck
  | noReply
deriving DecidableEq, Repr

/-- The outcome of the window that `request` opened (R11, R175). -/
def windowOutcome (request : Frame) : WindowReply → WindowOutcome
  | .silence => .noReply
  | .frame rx _ =>
    match checkFrame rx with
    | .framing => .badFraming
    | .check => .badCheck
    | .good kind _ unit payload =>
      if kindOfCode kind ≠ some .reply then .badFraming
      else if unit ≠ request.unit then .badFraming
      else if payload.length < requiredReply request then .badFraming
      else if rx.noise then .noisy payload
      else .clean payload

/-- What a window's outcome counts (R11, R22). -/
def countOutcome : WindowOutcome → State → State
  | .clean _, s => s
  | .noisy _, s => countNoisy s
  | .badFraming, s => countRowFraming s
  | .badCheck, s => countRowCheck s
  | .noReply, s => s

end Sys2Proof.Machine
end

