-- ==== Sys2Proof/Machine/Flags.lean ====
section
/-! DEFINITION. The flags and status bytes of 11_frame_and_entry_formats, and the status entries and status captures built with them. -/

namespace Sys2Proof.Machine

/-- The status byte of a RESPONSE: status, fresh-capture flag, request number modulo 16 (11, MANAGE and RESPONSE). -/
def statusByte (st : Status) (fresh : Bool) (number : Nat) : Byte :=
  byte (statusCode st + flagBit fresh 3 + number % 16 * 16)

/-- The flags byte of REPLY, DEFERRED REPLY and NOTICE (11, REPLY, DEFERRED REPLY and NOTICE). -/
def flagsByte (proxied settling noisy lost : Bool) : Byte :=
  byte (flagBit proxied 0 + flagBit settling 1 + flagBit noisy 2 + flagBit lost 3)

/-- The flags byte of a zone status entry (11, Table entries). -/
def zoneFlags (z : ZoneStatus) : Byte :=
  byte (flagBit z.blind 0 + flagBit z.degraded 1 + flagBit z.zeroSince.isSome 2)

/-- Table 8: mode, flags, R, D, last pass time, zero-since. -/
def zoneStatusBytes (z : ZoneStatus) : List Byte :=
  [byte (zoneModeCode z.mode), zoneFlags z] ++ bytes16 z.ratio ++ bytes16 z.estimate ++
    bytes32 z.lastPass.time.toNat ++ bytes32 ((z.zeroSince.getD .zero).time.toNat)

/-- Table 9: reading, health, miss count, recovery count, last good time. -/
def channelStatusBytes (c : ChannelStatus) : List Byte :=
  bytes16 c.reading ++ [byte (channelHealthCode c.health), byte c.missCount, byte c.recoveryCount] ++
    bytes32 c.lastGood.time.toNat

/-- The flags byte of a luminaire status entry (11, Table entries). -/
def lumFlags (l : Lum) : Byte :=
  byte (flagBit l.sentValid 0 + flagBit l.urgent 1 + flagBit l.aligned 2 +
    flagBit (l.health == .fault) 3)

/-- Table 10: B, fades, O, shadow state, S, flags, counts. -/
def lumBytes (l : Lum) : List Byte :=
  bytes16 l.base ++ [byte (l.baseFade.val * 16 + l.emissionFade.val)] ++ bytes16 l.output ++
    [byte (shadowCode l.shadow)] ++ bytes16 l.sent ++
    [lumFlags l, byte (l.mismatches * 16 + l.misses)]

/-- The channel whose query is offered or on the row (R46). -/
def Scan.channel (c : Scan) : Option ChannelId := if c.onRow then c.lastQueried else c.next

/-- The two bytes of the scan state (R46; 11, MANAGE and RESPONSE): the channel reads 0 in IDLE and SUSPENDED. -/
def scanBytes (c : Scan) : List Byte :=
  let channel := match c.state with
    | .scanning => (c.channel.map (·.val)).getD 0
    | .stopping => (c.channel.map (·.val)).getD 0
    | .idle => 0
    | .suspended => 0
  [byte (scanStateCode c.state),
    byte (flagBit c.urgent 0 + flagBit c.pending 1 + flagBit c.pendingUrgent 2 + channel * 16)]

/-- The bytes of READ STATUS part 0 (R163). -/
def statusBytes (s : State) : List Byte :=
  [byte (flagBit s.harvesting 0), s.segmentByte, byte (flagBit s.power.present 0),
    byte (flagBit s.store.writing.isSome 4 + storeResultCode s.store.last)] ++ scanBytes s.scan

/-- The bytes of READ STATUS part 1: the seven counters in the order of R22, and the segment clock (R164). -/
def counterBytes (s : State) : List Byte :=
  [byte s.counters.trunkFraming, byte s.counters.trunkCheck, byte s.counters.arbitration,
    byte s.counters.rowFraming, byte s.counters.rowCheck, byte s.counters.noisy,
    byte s.counters.forwardDrops] ++ bytes32 s.clock.toNat

/-! ## Events -/

/-- The index of an event's kind in the event route table (R158). -/
def Event.kind : Event → Fin 11
  | .restarted _ => 0
  | .sensorStale _ _ => 1
  | .sensorRecovered _ _ => 2
  | .skyTransient _ _ _ => 3
  | .zoneFailsafeEntered _ _ _ => 4
  | .zoneFailsafeLeft _ _ _ => 5
  | .luminaireFault _ _ _ => 6
  | .luminaireRecovered _ _ => 7
  | .rowPowerLost => 8
  | .rowPowerRestored => 9
  | .storeResult _ => 10

/-- The subject byte of an event (11, REPLY, DEFERRED REPLY and NOTICE). -/
def Event.subject : Event → Nat
  | .restarted .powerOn => 0
  | .restarted .defaults => 1
  | .restarted .warm => 2
  | .sensorStale c _ => c.val
  | .sensorRecovered c _ => c.val
  | .skyTransient c _ _ => c.val
  | .zoneFailsafeEntered z _ _ => z.val
  | .zoneFailsafeLeft z _ _ => z.val
  | .luminaireFault a _ _ => a.val
  | .luminaireRecovered a _ => a.val
  | .rowPowerLost => 0
  | .rowPowerRestored => 0
  | .storeResult .failed => 1
  | .storeResult _ => 0

/-- The data bytes of an event (11, REPLY, DEFERRED REPLY and NOTICE). -/
def Event.data : Event → List Byte
  | .restarted _ => []
  | .sensorStale _ u => [byte (unitCode u)]
  | .sensorRecovered _ u => [byte (unitCode u)]
  | .skyTransient _ old new => bytes16 old ++ bytes16 new
  | .zoneFailsafeEntered _ r d => bytes16 r ++ bytes16 d
  | .zoneFailsafeLeft _ r d => bytes16 r ++ bytes16 d
  | .luminaireFault _ .mismatch l => byte 0 :: bytes16 l
  | .luminaireFault _ .miss l => byte 1 :: bytes16 l
  | .luminaireRecovered _ l => bytes16 l
  | .rowPowerLost => []
  | .rowPowerRestored => []
  | .storeResult _ => []

/-- Two events merge in the upstream queue when their kind and subject are equal (R172). -/
def Event.sameSubject (a b : Event) : Bool := a.kind == b.kind && a.subject == b.subject

/-- The payload of a NOTICE (11, REPLY, DEFERRED REPLY and NOTICE). -/
def noticePayload (n : Notice) (lost : Bool) : List Byte :=
  [byte n.event.kind.val, flagsByte false false false lost, byte n.event.subject] ++
    bytes32 n.time.toNat ++ n.event.data

/-- The payload of a DEFERRED REPLY (11, REPLY, DEFERRED REPLY and NOTICE). -/
def deferredPayload (d : DeferredReply) : List Byte :=
  [byte d.tag.val, byte (outcomeCode d.outcome), flagsByte false false d.noisy false] ++ d.data

end Sys2Proof.Machine
end

