-- ==== Sys2Proof/Machine/RowMap.lean ====
section
/-! DEFINITION. The row map's shadow rules (02): output updates, frame starts and completions, mismatches, loss and return of row power. -/

namespace Sys2Proof.Machine

/-- The entry joins the pending list at its tail (R35). -/
def joinPending (a : Addr) (s : State) : State :=
  { s with pendingList := s.pendingList ++ [a] }

/-- The entry leaves the pending list (R35). -/
def leavePending (a : Addr) (s : State) : State :=
  { s with pendingList := s.pendingList.erase a }

/-- Urgency and fade of an update to an entry whose frame is waiting or on the row (R29, R30). -/
def Lum.settle (l : Lum) (urgent : Bool) (fade : Fade) : Lum :=
  if urgent then { l with urgent := true, emissionFade := fade }
  else if l.urgent then l
  else { l with emissionFade := fade }

/-- An output update that is not without effect, by the entry's shadow state (R28 to R30). -/
def applyUpdate (a : Addr) (o : Nat) (urgent : Bool) (fade : Fade) (s : State) : State :=
  let l := { s.lum a with output := o }
  match l.shadow with
  | .synced =>
    if o = l.sent then s.setLum a l
    else joinPending a (s.setLum a
      { l with shadow := .pending, urgent := urgent, emissionFade := fade })
  | .pending =>
    if l.sentValid = true ∧ o = l.sent then
      leavePending a (s.setLum a { l with shadow := .synced, urgent := false })
    else s.setLum a (l.settle urgent fade)
  | .inFlight => s.setLum a (l.settle urgent fade)
  | .unknown => s.setLum a l

/-- An output update: the new O of a luminaire, its urgency and its fade (R27). A non-urgent update that leaves O as it was has no effect. -/
def outputUpdate (a : Addr) (o : Nat) (urgent : Bool) (fade : Fade) (s : State) : State :=
  if urgent = false ∧ o = (s.lum a).output then s else applyUpdate a o urgent fade s

/-- A level frame that covers the entry starts: it leaves the list and is IN FLIGHT with S the carried level (R31). -/
def startCovered (level : Nat) (s : State) (a : Addr) : State :=
  leavePending a (s.setLum a
    { s.lum a with shadow := .inFlight, sent := level, sentValid := true, urgent := false })

/-- A level frame that covered the entry completes (R32). -/
def completeCovered (level : Nat) (s : State) (a : Addr) : State :=
  let l := s.lum a
  if s.isLum a = true ∧ l.shadow = .inFlight then
    if l.output = level then
      s.setLum a { l with shadow := .synced, sent := level, sentValid := true, urgent := false }
    else joinPending a (s.setLum a { l with shadow := .pending, sent := level, sentValid := true })
  else s

/-- The fade of an update that no command brings: the trim fade of the entry's zone, or its base fade if the zone is NONE (R33, R40, R80). -/
def State.updateFade (s : State) (a : Addr) : Fade :=
  match (s.row a).zone with
  | some z => (s.zoneConfig z).trimFade
  | none => (s.lum a).baseFade

/-- A verify mismatch of a SYNCED entry (R33). -/
def reportMismatch (a : Addr) (s : State) : State :=
  joinPending a (s.setLum a
    { s.lum a with
      shadow := .pending, sentValid := false, urgent := false, emissionFade := s.updateFade a })

/-- A luminaire's fields at loss of row power (R34). -/
def Lum.lose (l : Lum) : Lum := { l with shadow := .unknown, sentValid := false, urgent := false }

/-- A luminaire's fields at the return of row power: PENDING from UNKNOWN, so S is invalid (R29, R34). -/
def Lum.return (l : Lum) : Lum :=
  { l with shadow := .pending, sentValid := false, urgent := false, emissionFade := l.baseFade }

/-- Change every LUMINAIRE entry, and leave the others (R34). -/
def State.mapLuminaires (s : State) (f : Lum → Lum) : State :=
  { s with lums := Vector.ofFn fun a : Addr => if s.isLum a then f (s.lum a) else s.lum a }

/-- Row power becomes ABSENT at the row map (R34). -/
def rowMapLost (s : State) : State :=
  { s.mapLuminaires Lum.lose with pendingList := [] }

/-- Row power becomes PRESENT at the row map: every luminaire is PENDING, in ascending order (R34). -/
def rowMapReturned (s : State) : State :=
  { s.mapLuminaires Lum.return with pendingList := s.luminaires }

/-- A luminaire whose role is taken away (R38). -/
def leaveLuminaire (a : Addr) (s : State) : State :=
  leavePending a (s.setLum a (s.lum a).lose)

/-- Alignment is cleared of the LUMINAIRE entries a forwarded SET GROUPS may reach (R108). -/
def clearAligned (f : Frame) (s : State) : State :=
  { s with lums := Vector.ofFn fun a : Addr =>
      if s.isLum a = true ∧ (64 ≤ f.unit.toNat ∨ f.unit.toNat = a.val)
      then { s.lum a with aligned := false } else s.lum a }

end Sys2Proof.Machine
end

