-- ==== Sys2Proof/Machine/Upstream.lean ====
section
/-! DEFINITION. The upstream queue (R15 to R19): places, displacement, merging, and the transmission of its head. -/

namespace Sys2Proof.Machine

/-! ## The queue as a list -/

/-- The entry is a NOTICE. -/
def UpEntry.isNotice (e : UpEntry) : Bool :=
  match e.item with
  | .notice _ => true
  | .deferred _ => false

/-- The entry's notice priority; a DEFERRED REPLY goes ahead of every notice (R15). -/
def UpEntry.rank (e : UpEntry) : Nat :=
  match e.item with
  | .notice n => n.priority
  | .deferred _ => 8

/-- The notices queued. -/
def noticeCount (q : List UpEntry) : Nat := (q.filter UpEntry.isNotice).length

/-- Place an entry after the last one of its own rank or of a higher one (R15, R16). -/
def place (e : UpEntry) (q : List UpEntry) : List UpEntry :=
  q.takeWhile (fun x => decide (e.rank ≤ x.rank)) ++ e :: q.dropWhile (fun x => decide (e.rank ≤ x.rank))

/-- The notices that are not being transmitted. -/
def movable (q : List UpEntry) : List UpEntry := q.filter fun e => e.isNotice && !e.sending

/-- The lowest priority among the notices that are not being transmitted. -/
def lowestPriority (q : List UpEntry) : Option Nat := ((movable q).map UpEntry.rank).min?

/-- Remove the oldest notice of a priority among those not being transmitted. -/
def dropOldest (priority : Nat) (q : List UpEntry) : List UpEntry :=
  q.eraseP fun e => e.isNotice && !e.sending && e.rank == priority

/-! ## Offers -/

/-- A notice is displaced or dropped: the marker is set (R18). -/
def markLost (s : State) : State := { s with noticesLost := true, lostSinceStart := true }

/-- Make a place for a DEFERRED REPLY in a full queue: displace the oldest notice of the lowest priority among those not being transmitted, or the only notice, being transmitted (R15). The displacement of the notice being transmitted counts as one after its start: when its frame is then sent with its notices-lost flag set, the marker stays set, where R18 speaks of another notice (log entry 35). -/
def makePlace (s : State) : State :=
  match lowestPriority s.upstream with
  | some p => markLost { s with upstream := dropOldest p s.upstream }
  | none =>
    if 0 < noticeCount s.upstream then
      markLost { s with upstream := s.upstream.eraseP UpEntry.isNotice }
    else s

/-- A DEFERRED REPLY is offered (R15). Eight deferred replies cannot be queued when one is offered; the queue then stays as it is (log entry 22). -/
def offerDeferred (d : DeferredReply) (s : State) : State :=
  let s := if Config.upstreamCapacity ≤ s.upstream.length then makePlace s else s
  if Config.upstreamCapacity ≤ s.upstream.length then s
  else { s with upstream := place ⟨.deferred d, false, false⟩ s.upstream }

/-- Replace the data and time of a queued notice of the same kind and subject, which keeps its place and priority (R16). -/
def mergeInto (n : Notice) (e : UpEntry) : UpEntry :=
  match e.item with
  | .notice m =>
    if m.event.sameSubject n.event then
      { e with item := .notice { m with event := n.event, time := n.time }, merged := e.sending }
    else e
  | .deferred _ => e

/-- The entry is a notice of the same kind and subject (R172). -/
def UpEntry.matches (n : Notice) (e : UpEntry) : Bool :=
  match e.item with
  | .notice m => m.event.sameSubject n.event
  | .deferred _ => false

/-- A NOTICE is offered (R16). -/
def offerNotice (n : Notice) (s : State) : State :=
  if s.upstream.any (UpEntry.matches n) then
    { s with upstream := s.upstream.map (mergeInto n) }
  else if noticeCount s.upstream < Config.noticeCapacity ∧
      s.upstream.length < Config.upstreamCapacity then
    { s with upstream := place ⟨.notice n, false, false⟩ s.upstream }
  else
    match lowestPriority s.upstream with
    | some p =>
      if p < n.priority then
        markLost { s with upstream := place ⟨.notice n, false, false⟩ (dropOldest p s.upstream) }
      else markLost s
    | none => markLost s

/-! ## Events (R171) -/

/-- The event makes a notice if its route gives a priority (R171). -/
def noticeOf (e : Event) (s : State) : State :=
  let route := s.tables.routes[e.kind.val]
  if 0 < route.priority then offerNotice ⟨e, s.clock, route.priority⟩ s else s

/-- The event's route has rescan set (R171). -/
def routeRescans (e : Event) (s : State) : Bool := s.tables.routes[e.kind.val].rescan

/-! ## Transmission (R13, R17, R18) -/

/-- The arbitration class: DEFERRED REPLY 1, NOTICE 2 (R13). -/
def UpEntry.arbitrationClass (e : UpEntry) : Nat := if e.isNotice then 2 else 1

/-- The qualification time in microseconds (R13). -/
def qualification (cls : Nat) (segment : Fin 16) : Nat :=
  Config.qualificationUs + Config.classStepUs * cls + Config.segmentStepUs * segment.val

/-- The frame an entry is sent as, with the notices-lost flag taken from the marker (R18). -/
def upFrame (s : State) (e : UpEntry) : Frame :=
  match e.item with
  | .deferred d => ⟨.deferredReply, s.segmentByte, d.unit, deferredPayload d⟩
  | .notice n => ⟨.notice, s.segmentByte, 126, noticePayload n s.noticesLost⟩

/-- The head of the queue may start: the transmitter is free and the trunk has been idle for the time of the head's class (R13). -/
def headQualifies (s : State) : Bool :=
  match s.upstream, s.trunkIdle with
  | e :: _, some t =>
    s.trunkTx == .idle &&
      decide (qualification e.arbitrationClass s.segment ≤ s.portTime - t)
  | _, _ => false

/-- The head starts: its content is fixed and the entry is marked (R17, R18). -/
def startHead (s : State) : State :=
  match s.upstream with
  | [] => s
  | e :: q =>
    { s with
      upstream := { e with sending := true, merged := false } :: q
      trunkTx := .sending (upFrame s e) s.portTime (e.isNotice && s.noticesLost)
      trunkIdle := none
      lostSinceStart := false }

/-- An entry is no longer marked as being transmitted. -/
def UpEntry.unmark (e : UpEntry) : UpEntry := { e with sending := false, merged := false }

/-- The entry being transmitted is removed at the end of its frame, unless a merge replaced its data: then it stays, unmarked (R17). -/
def settleSent (q : List UpEntry) : List UpEntry :=
  (q.filter fun e => !e.sending || e.merged).map UpEntry.unmark

/-- The tag of a DEFERRED REPLY among entries that leave the queue. -/
def sentTags (q : List UpEntry) : List Tag :=
  q.filterMap fun e =>
    match e.item with
    | .deferred d => if e.sending && !e.merged then some d.tag else none
    | .notice _ => none

/-- A queued frame has been sent without arbitration loss: the entry leaves, its tag is released, and the marker is cleared if the frame carried it and no notice has been lost since (R17, R18, R135). -/
def finishSending (lostFlag : Bool) (s : State) : State :=
  { s with
    upstream := settleSent s.upstream
    tagsInUse := s.tagsInUse.filter fun t => !(sentTags s.upstream).contains t
    noticesLost := s.noticesLost && !(lostFlag && !s.lostSinceStart)
    trunkTx := .idle
    trunkIdle := some s.portTime }

/-- A frame is lost to arbitration: the entry stays where it is, unmarked (R14, R17). Where the line then falls idle, the trunk is idle from that moment (R13), and what the part had driven of its frame is no framing error beside the arbitration loss (log entry 36). -/
def loseArbitration (lineIdle : Bool) (s : State) : State :=
  countArbitration
    { s with
      upstream := s.upstream.map UpEntry.unmark
      trunkTx := .idle
      trunkIdle := if lineIdle then some s.portTime else none }

end Sys2Proof.Machine
end

