-- ==== Sys2Proof/Machine/Trim.lean ====
section
/-! DEFINITION. The trim computation (04) and the zone modes (05): the output rule, recomputation outside passes, and the compute pass. -/

namespace Sys2Proof.Machine

/-! ## The output rule (R77, R78) -/

/-- Switch-off holds: permitted, zero-since set, and the off dwell has run out (R78). -/
def switchedOff (c : ZoneConfig) (v : ZoneStatus) (now : Clock) : Bool :=
  match v.zeroSince with
  | some t => c.switchOff && decide (c.offDwell * 1000 ≤ t.interval now)
  | none => false

/-- The output of base level `b` and minimum level `pmin` in a bound zone (R77, R78). -/
def boundOutput (c : ZoneConfig) (v : ZoneStatus) (now : Clock) (b pmin : Nat) : Nat :=
  if b = 0 then 0
  else if v.ratio = 0 then (if switchedOff c v now then 0 else pmin)
  else max pmin ((b * v.ratio + 999) / 1000)

/-- The output of base level `b` at entry `a` (R77). -/
def State.outputFor (s : State) (a : Addr) (b : Nat) : Nat :=
  match (s.row a).zone with
  | none => b
  | some z =>
    if (s.zone z).mode = .unbound then b
    else boundOutput (s.zoneConfig z) (s.zone z) s.clock b (s.row a).pmin

/-- The output the rule gives for an entry as it stands (R77). -/
def State.outputOf (s : State) (a : Addr) : Nat := s.outputFor a (s.lum a).base

/-! ## Recomputation (R79, R80) -/

/-- Recompute one entry, as a non-urgent update with the fade of R80 and R40. -/
def recompute (s : State) (a : Addr) : State :=
  outputUpdate a (s.outputOf a) false (s.updateFade a) s

/-- Recompute the luminaires of a zone in ascending order (R80). -/
def recomputeZone (z : ZoneId) (s : State) : State := (s.members z).foldl recompute s

/-- Every LUMINAIRE entry whose zone is a bound zone, ascending (R76). -/
def State.boundMembers (s : State) : List Addr :=
  addresses.filter fun a => s.isLum a &&
    (match (s.row a).zone with
     | some z => (s.zone z).mode != .unbound
     | none => false)

/-! ## Usability and the estimate (R66 to R70) -/

/-- The channel lies in the captured range (R66). -/
def inScanRange (s : State) (c : ChannelId) : Bool :=
  decide (s.scan.first ≤ c) && decide (c ≤ s.scan.last)

/-- Usable directly: in range, and FRESH or SUSPECT (R66). -/
def usableDirectly (s : State) (c : ChannelId) : Bool :=
  inScanRange s c &&
    ((s.channel c).health == .fresh || (s.channel c).health == .suspect)

/-- The sky channel's reading, when it is set and usable directly (R67). -/
def skyReading (s : State) : Option Nat :=
  match s.settings.sky with
  | some c => if usableDirectly s c then some (s.channel c).reading else none
  | none => none

/-- The substituted value of R69. -/
def substitute (k sky : Nat) : Nat := min 20000 ((k * sky + 512) / 1024)

/-- The value a channel has in the pass: its reading, or its substituted value, or none when it is not usable (R66, R67, R69). -/
def channelValue (s : State) (c : ChannelId) : Option Nat :=
  if usableDirectly s c then some (s.channel c).reading
  else
    match skyReading s with
    | some sky =>
      if inScanRange s c = true ∧ (s.channel c).health = .stale ∧ 0 < (s.channelConfig c).k
      then some (substitute (s.channelConfig c).k sky) else none
    | none => none

/-- The channels a zone weighs (R64). -/
def weighed (s : State) (z : ZoneId) : List ChannelId :=
  channelIds.filter fun c => decide (0 < s.coeff z c)

/-- No channel weighed by the zone is usable (R68). -/
def isBlind (s : State) (z : ZoneId) : Bool :=
  (weighed s z).all fun c => (channelValue s c).isNone

/-- Not blind, but some channel weighed is not usable directly (R68). -/
def isDegraded (s : State) (z : ZoneId) : Bool :=
  !isBlind s z && (weighed s z).any fun c => !usableDirectly s c

/-- The accumulator A of R70. -/
def accumulate (s : State) (z : ZoneId) : Nat :=
  ((weighed s z).map fun c => s.coeff z c * (channelValue s c).getD 0).sum

/-- The estimate D of R70. -/
def estimateOf (s : State) (z : ZoneId) : Nat := min 20000 ((accumulate s z + 512) / 1024)

/-! ## Ratio and dwell (R71 to R74) -/

/-- The raw ratio of a TRACK zone (R71). -/
def rawRatio (target estimate : Nat) : Nat :=
  if target ≤ estimate then 0
  else ((target - estimate) * 1000 + target - 1) / target

/-- The dead band (R72). -/
def deadBanded (band raw ratio : Nat) : Nat :=
  if raw ≠ 0 ∧ raw ≠ 1000 ∧ max raw ratio - min raw ratio ≤ band then ratio else raw

/-- The elapsed time of a pass, clamped to 1 to 10000 ms (R73). -/
def passInterval (v : ZoneStatus) (now : Clock) : Nat := max 1 (min 10000 (v.lastPass.interval now))

/-- The step of a slew rate over an elapsed time (R73). -/
def slewStep (rate dt : Nat) : Nat := max 1 ((rate * dt + 500) / 1000)

/-- R slews toward the wanted ratio (R73). -/
def slew (c : ZoneConfig) (dt ratio wanted : Nat) : Nat :=
  if ratio < wanted then min wanted (ratio + slewStep c.slewUp dt)
  else max wanted (ratio - slewStep c.slewDown dt)

/-- The mode after the blind test of a pass (R68, R85, R86). -/
def modeAfterBlind (m : ZoneMode) (blind : Bool) : ZoneMode :=
  match m, blind with
  | .track, true => .failsafe
  | .failsafe, false => .track
  | m, _ => m

/-- The zero dwell (R74). -/
def zeroDwell (ratio : Nat) (since : Option Stamp) (now : Stamp) : Option Stamp :=
  if ratio = 0 then some (since.getD now) else none

/-- The estimate a pass leaves: formed in TRACK, kept in the other modes (R70, R75). -/
def passEstimate (s : State) (z : ZoneId) (m : ZoneMode) : Nat :=
  if m = .track then estimateOf s z else (s.zone z).estimate

/-- The ratio a pass leaves (R71 to R73, R75). -/
def passRatio (s : State) (z : ZoneId) (m : ZoneMode) : Nat :=
  let c := s.zoneConfig z
  let v := s.zone z
  let dt := passInterval v s.clock
  match m with
  | .track => slew c dt v.ratio (deadBanded c.deadBand (rawRatio c.target (estimateOf s z)) v.ratio)
  | .failsafe => slew c dt v.ratio 1000
  | _ => v.ratio

/-- A zone's status after a pass; an unbound zone is passed over (R65 to R75). -/
def passZone (s : State) (z : ZoneId) : ZoneStatus :=
  let v := s.zone z
  if v.mode = .unbound then v
  else
    let blind := isBlind s z
    let m := modeAfterBlind v.mode blind
    let r := passRatio s z m
    { mode := m
      ratio := r
      estimate := passEstimate s z m
      lastPass := s.stamp
      zeroSince := zeroDwell r v.zeroSince s.stamp
      blind := blind
      degraded := isDegraded s z }

/-- The event a zone's change of mode at a pass raises (R85, R86). -/
def passEvent (before after : ZoneStatus) (z : ZoneId) : Option Event :=
  match before.mode, after.mode with
  | .track, .failsafe => some (.zoneFailsafeEntered z after.ratio after.estimate)
  | .failsafe, .track => some (.zoneFailsafeLeft z after.ratio after.estimate)
  | _, _ => none

/-- The events of a pass in ascending zone order (R75, R95). -/
def passEvents (before after : State) : List Event :=
  zoneIds.filterMap fun z => passEvent (before.zone z) (after.zone z) z

/-- A route rescan taken while a scan is in progress sets rescan pending with its urgent mark; in any other state reached inside a scan it has no effect (R51, R54). -/
def rescanInScan (s : State) : State :=
  if s.scan.state = .scanning ∧ s.settings.mode ≠ .off then
    { s with scan := { s.scan with pending := true, pendingUrgent := true } }
  else s

/-- An event raised while a scan is in progress is handed to the management unit (R171, R49). -/
def raiseInScan (s : State) (e : Event) : State :=
  if routeRescans e s then rescanInScan (noticeOf e s) else noticeOf e s

/-- The compute pass: every zone's status is settled, then the outputs of the members of bound zones are handed to the row map, then the events to the management unit (R65, R76, R95). -/
def computePass (s : State) : State :=
  let settled := { s with zones := Vector.ofFn (passZone s) }
  let updated := settled.boundMembers.foldl recompute settled
  (passEvents s settled).foldl raiseInScan updated

/-! ## Mode changes outside passes (R83, R84, R90 to R92) -/

/-- Binding: TRACK with R = 1000 (R83). -/
def bindZone (z : ZoneId) (s : State) : State :=
  recomputeZone z (s.setZone z ⟨.track, 1000, 0, s.stamp, none, false, false⟩)

/-- Unbinding: the members return to their base levels (R84). -/
def unbindZone (z : ZoneId) (s : State) : State :=
  recomputeZone z (s.setZone z { s.zone z with mode := .unbound })

/-- HOLD: R, D, zero-since and the last pass time stand (R90). -/
def holdZone (v : ZoneStatus) : ZoneStatus := { v with mode := .hold }

/-- MANUAL: R is 1000 and zero-since none (R91). -/
def manualZone (v : ZoneStatus) : ZoneStatus :=
  if v.mode = .manual then v else { v with mode := .manual, ratio := 1000, zeroSince := none }

/-- TRACK: from HOLD or MANUAL; a FAILSAFE zone stays as it is (R92). -/
def trackZone (v : ZoneStatus) : ZoneStatus :=
  if v.mode = .failsafe then v else { v with mode := .track }

/-- Change a bound zone's mode and recompute its members; a zone already in the mode is left as it is (R80, R89 to R92). The recomputation makes the switch-off test of R78 with the present clock, so that at R = 0 a member's output can differ from the one it had, which R90 and R92 say comes out equal (log entry 34). -/
def changeMode (change : ZoneStatus → ZoneStatus) (s : State) (z : ZoneId) : State :=
  if change (s.zone z) = s.zone z then s
  else recomputeZone z (s.setZone z (change (s.zone z)))

end Sys2Proof.Machine
end

