-- ==== Sys2Proof/Machine/Scan.lean ====
section
/-! DEFINITION. The scan controller (03): starting and completing scans, triggers, the channel health ladder, sky transients, and the general hand-over of events to the management unit (R171). -/

namespace Sys2Proof.Machine

/-! ## The walk over the range (R47, R49, R50) -/

/-- The lowest channel of the captured range, at or above `from_`, that names a sensor (R47, R49). -/
def nextChannel (s : State) (from_ : Nat) : Option ChannelId :=
  channelIds.find? fun c => decide (from_ ≤ c.val) && inScanRange s c && (s.channelConfig c).unit.isSome

/-- Where the search for the next channel begins: above the channel last queried, or at the first of the range (R49, R50). -/
def searchStart (c : Scan) : Nat :=
  match c.lastQueried with
  | some q => q.val + 1
  | none => c.first.val

/-- Find the next channel afresh (R50). -/
def findNext (s : State) : State :=
  { s with scan := { s.scan with next := nextChannel s (searchStart s.scan) } }

/-! ## Starting and completing (R47, R49, R53, R54) -/

/-- A scan starts: range and start time are captured, and the lower-turn flag is cleared (R47, R119). -/
def openScan (urgent : Bool) (s : State) : State :=
  findNext
    { s with
      scan :=
        { state := .scanning
          first := s.settings.first
          last := s.settings.last
          next := none
          lastQueried := none
          onRow := false
          disregard := false
          start := s.stamp
          urgent := urgent
          pending := s.scan.pending
          pendingUrgent := s.scan.pendingUrgent
          tickTaken := false
          emptyDone := false }
      lowerTurn := false }

/-- The controller enters a state without a scan: no candidate, no query, no urgent mark (R49, R54 to R56). -/
def endScan (st : ScanState) (s : State) : State :=
  { s with scan := { s.scan with
      state := st, next := none, onRow := false, disregard := false, urgent := false } }

/-- Rescan pending and its urgent mark are cleared (R54). -/
def clearPending (s : State) : State :=
  { s with scan := { s.scan with pending := false, pendingUrgent := false } }

/-- The scan completes: the compute pass runs, then the controller is IDLE; a scan that queried no channel is noted (R49, R53). -/
def completeScan (s : State) : State :=
  let s := endScan .idle (computePass s)
  { s with scan := { s.scan with emptyDone := s.scan.lastQueried.isNone } }

/-- The next-scan rules applied at a completion (R53, R54): a pending rescan starts with its urgent mark; else, in CONTINUOUS mode, a scan that queried a channel is followed by another. -/
def nextScan (start : Bool → State → State) (s : State) : State :=
  if s.scan.pending then start s.scan.pendingUrgent (clearPending s)
  else if s.settings.mode = .continuous ∧ s.scan.emptyDone = false then start false s
  else s

/-- Start a scan; one that finds no channel to query completes at its start and may be followed by another (R47, R49). `fuel` bounds the chain of scans that complete at their start. -/
def startScanFuel : Nat → Bool → State → State
  | 0, _, s => s
  | fuel + 1, urgent, s =>
    let opened := openScan urgent s
    if opened.scan.next.isSome then opened
    else nextScan (startScanFuel fuel) (completeScan opened)

/-- The longest chain of scans that complete at their start in one event: a second pass over the same range and healths changes no zone's mode and so raises nothing (log entry 23). -/
def scanChain : Nat := 4

/-- A scan starts (R47). -/
def startScan (urgent : Bool) (s : State) : State := startScanFuel scanChain urgent s

/-- A scan completes and the next-scan rules are applied (R49). -/
def finishScan (s : State) : State := nextScan startScan (completeScan s)

/-! ## Triggers (R51) -/

/-- Rescan pending is set, with the urgent mark if the trigger is urgent (R51, R54). -/
def setPending (urgent : Bool) (s : State) : State :=
  { s with scan := { s.scan with
      pending := true, pendingUrgent := s.scan.pendingUrgent || urgent } }

/-- A trigger other than the change of mode away from OFF is taken (R51). -/
def trigger (urgent : Bool) (s : State) : State :=
  if s.settings.mode = .off then s
  else
    match s.scan.state with
    | .idle => startScan urgent s
    | .scanning => setPending urgent s
    | .stopping => s
    | .suspended => s

/-- An event is handed to the management unit: a notice, a route rescan, both or neither (R171). -/
def raise (e : Event) (s : State) : State :=
  if routeRescans e s then trigger true (noticeOf e s) else noticeOf e s

/-! ## Ticks (R52, R53) -/

/-- The scan period has elapsed since the start of the most recent scan. -/
def periodOver (s : State) : Bool := decide (s.settings.period ≤ s.scan.start.interval s.clock)

/-- The periodic tick is due: PERIODIC mode, not SUSPENDED, not yet raised since the last start, and the period over (R52). -/
def tickDue (s : State) : Bool :=
  s.settings.mode == .periodic && s.scan.state != .suspended && !s.scan.tickTaken && periodOver s

/-- The periodic tick occurs (R52). -/
def takeTick (s : State) : State :=
  trigger false { s with scan := { s.scan with tickTaken := true } }

/-- The periodic tick occurs if it is due (R45, R52). -/
def tickIfDue (s : State) : State := if tickDue s then takeTick s else s

/-- The continuous restart is due: CONTINUOUS mode, IDLE, the last scan completed without a query, and the period over since its start (R53). -/
def continuousDue (s : State) : Bool :=
  s.settings.mode == .continuous && s.scan.state == .idle && s.scan.emptyDone && periodOver s

/-! ## Channel outcomes (R57 to R61) -/

/-- A query's outcome for its channel (R57). -/
inductive ChannelOutcome where
  | clean (value : Nat)
  | noisy (value : Nat)
  | miss
deriving DecidableEq, Repr

/-- The value of a LIGHT READING reply, saturated (R57). -/
def luxOf (payload : List Byte) : Nat := min 20000 (payload16 payload 0)

/-- The sensor status reports a fault (R57). -/
def sensorFault (payload : List Byte) : Bool := (payload.getD 2 0).getLsbD 0

/-- The window's outcome classified for the channel (R57). -/
def channelOutcome : WindowOutcome → ChannelOutcome
  | .clean p => if sensorFault p then .miss else .clean (luxOf p)
  | .noisy p => if sensorFault p then .miss else .noisy (luxOf p)
  | .badFraming => .miss
  | .badCheck => .miss
  | .noReply => .miss

/-- A clean reply acts on the channel (R58). -/
def cleanReply (recoverLimit value : Nat) (now : Stamp) (v : ChannelStatus) : ChannelStatus :=
  let v := { v with reading := value, lastGood := now }
  match v.health with
  | .unseen => { v with health := .fresh, missCount := 0, recoveryCount := 0 }
  | .fresh => { v with missCount := 0 }
  | .suspect => { v with health := .fresh, missCount := 0 }
  | .stale =>
    if recoverLimit ≤ v.recoveryCount + 1 then
      { v with health := .fresh, missCount := 0, recoveryCount := 0 }
    else { v with recoveryCount := v.recoveryCount + 1 }

/-- A noisy reply acts on the channel (R59). -/
def noisyReply (value : Nat) (v : ChannelStatus) : ChannelStatus := { v with reading := value }

/-- The health of a channel that has missed, before the stale test (R60). -/
def afterMiss (h : ChannelHealth) : ChannelHealth :=
  match h with
  | .fresh => .suspect
  | h => h

/-- A miss acts on the channel (R60). -/
def missReply (staleLimit : Nat) (v : ChannelStatus) : ChannelStatus :=
  let misses := min 15 (v.missCount + 1)
  let v := { v with missCount := misses, health := afterMiss v.health }
  if v.health = .stale then { v with recoveryCount := 0 }
  else if staleLimit ≤ misses then { v with health := .stale, recoveryCount := 0 }
  else v

/-- The relative change of the sky channel (R61). -/
def skyChange (old new : Nat) : Nat := (max new old - min new old) * 1000 / max old 50

/-- The sky transient test on a reply that brought `new` to a channel (R61). -/
def transientOf (s : State) (c : ChannelId) (before : ChannelStatus) (new : Nat) : Option Event :=
  if s.settings.sky = some c ∧ (before.health = .fresh ∨ before.health = .suspect) ∧
      s.settings.threshold ≤ skyChange before.reading new
  then some (.skyTransient c before.reading new) else none

/-- The channel's status after an outcome (R58 to R60). -/
def channelAfter (s : State) (o : ChannelOutcome) (v : ChannelStatus) : ChannelStatus :=
  match o with
  | .clean x => cleanReply s.settings.recoverLimit x s.stamp v
  | .noisy x => noisyReply x v
  | .miss => missReply s.settings.staleLimit v

/-- The health event of an outcome: STALE reached, or left (R58, R60). -/
def healthEvent (c : ChannelId) (unit : Option Addr) (before after : ChannelStatus) : Option Event :=
  if before.health = .stale ∧ after.health = .fresh then some (.sensorRecovered c unit)
  else if before.health ≠ .stale ∧ after.health = .stale then some (.sensorStale c unit)
  else none

/-- The transient of an outcome, if it brought a value (R61). -/
def transientEvent (s : State) (c : ChannelId) (o : ChannelOutcome) (before : ChannelStatus) :
    Option Event :=
  match o with
  | .clean x => transientOf s c before x
  | .noisy x => transientOf s c before x
  | .miss => none

/-- An outcome is recorded in its channel, and its events are raised (R57 to R61). -/
def recordOutcome (c : ChannelId) (o : ChannelOutcome) (s : State) : State :=
  let before := s.channel c
  let after := channelAfter s o before
  let events := (healthEvent c (s.channelConfig c).unit before after).toList ++
    (transientEvent s c o before).toList
  events.foldl raiseInScan (s.setChannel c after)

/-! ## The end of a query (R49, R55) -/

/-- The scan is abandoned after STOPPING; a change of mode away from OFF taken meanwhile starts a new scan, not urgent (R55). -/
def leaveStopping (s : State) : State :=
  let restart := s.scan.pending && s.settings.mode != .off
  let s := clearPending (endScan .idle s)
  if restart then startScan false s else s

/-- The scan goes on after an outcome: the next channel, or completion (R49). -/
def advanceScan (s : State) : State :=
  let s := findNext { s with scan := { s.scan with onRow := false, disregard := false } }
  if s.scan.next.isSome then s else finishScan s

/-- The outcome of the query on the row is handed over (R49, R55). -/
def scanOutcome (c : ChannelId) (o : ChannelOutcome) (s : State) : State :=
  let s := if s.scan.disregard then s else recordOutcome c o s
  match s.scan.state with
  | .scanning => advanceScan s
  | .stopping => leaveStopping s
  | .idle => s
  | .suspended => s

/-! ## Mode changes and row power (R55, R56) -/

/-- A change of scan mode to OFF (R55). -/
def modeOff (s : State) : State :=
  match s.scan.state with
  | .scanning =>
    if s.scan.onRow then { s with scan := { s.scan with state := .stopping } }
    else clearPending (endScan .idle s)
  | .stopping => clearPending s
  | .idle => s
  | .suspended => s

/-- A change of scan mode away from OFF (R51, R55). -/
def modeOn (s : State) : State :=
  match s.scan.state with
  | .idle => startScan false s
  | .stopping => setPending false s
  | .scanning => s
  | .suspended => s

/-- The effects of a change of scan mode from `old` to the mode now in the settings (R55). -/
def modeChanged (old : ScanMode) (s : State) : State :=
  match old, s.settings.mode with
  | .off, .off => s
  | .off, .periodic => modeOn s
  | .off, .continuous => modeOn s
  | .periodic, .off => modeOff s
  | .periodic, .periodic => s
  | .periodic, .continuous => trigger false s
  | .continuous, .off => modeOff s
  | .continuous, .periodic => s
  | .continuous, .continuous => s

/-- Row power becomes ABSENT at the scan controller (R56). -/
def suspendScan (s : State) : State := clearPending (endScan .suspended s)

/-- Row power becomes PRESENT at the scan controller: IDLE, and a scan starts unless the mode is OFF (R56). -/
def resumeScan (s : State) : State := trigger false (endScan .idle s)

/-- A sensor unit has been written while a candidate stands: the next channel is found afresh, and the scan completes if none remains (R50). -/
def reviseScan (s : State) : State :=
  if s.scan.state = .scanning ∧ s.scan.onRow = false then
    let s := findNext s
    if s.scan.next.isSome then s else finishScan s
  else s

end Sys2Proof.Machine
end

