-- ==== Sys2Proof/Machine/Relay.lean ====
section
/-! DEFINITION. The query relay (08): proxy answers, deferral and tags, the forward queue and its outcomes. -/

namespace Sys2Proof.Machine

/-! ## Answers -/

/-- A RESPONSE to a QUERY or DEVICE CONFIG, whose request number is 0 (R155; 11, MANAGE and RESPONSE). -/
def relayResponse (s : State) (unit : Byte) (st : Status) (data : List Byte) : Frame :=
  ⟨.response, s.segmentByte, unit, statusByte st false 0 :: data⟩

/-- The age of a reading in units of 100 ms, at most 255 (R132). -/
def readingAge (s : State) (v : ChannelStatus) : Nat := min 255 (v.lastGood.interval s.clock / 100)

/-- The lowest FRESH channel that names the unit (R132). -/
def freshChannel (s : State) (a : Addr) : Option ChannelId :=
  channelIds.find? fun c =>
    (s.channelConfig c).unit == some a && (s.channel c).health == .fresh

/-- The proxy answer to TARGET LEVEL, if there is one (R131). -/
def proxyLevel (s : State) (a : Addr) : Option (List Byte) :=
  let l := s.lum a
  if s.isLum a = true ∧ l.health = .good then
    match l.shadow with
    | .synced => some (bytes16 l.sent ++ [flagsByte true false false false])
    | .pending => some (bytes16 l.output ++ [flagsByte true true false false])
    | .inFlight => some (bytes16 l.output ++ [flagsByte true true false false])
    | .unknown => none
  else none

/-- The proxy answer to LIGHT READING, if there is one (R132). -/
def proxyReading (s : State) (a : Addr) : Option (List Byte) :=
  if (s.row a).role = .sensor then
    match freshChannel s a with
    | some c =>
      some (bytes16 (s.channel c).reading ++
        [byte 0, byte (readingAge s (s.channel c)), flagsByte true false false false])
    | none => none
  else none

/-- The proxy answer to a query for an item, if there is one (R131 to R133). -/
def proxyAnswer (s : State) (a : Addr) (item : Byte) : Option (List Byte) :=
  if item = 1 then proxyLevel s a
  else if item = 8 then proxyReading s a
  else none

/-! ## The forward queue (R134 to R137) -/

/-- The first tag after the last one that is not in use (R135). -/
def nextTag (last : Tag) (inUse : List Tag) : Option Tag :=
  ((List.range 16).map fun k => Fin.ofNat 16 (last.val + 1 + k)).find? fun t => !inUse.contains t

/-- An untagged frame is offered for forwarding: appended, or dropped and counted (R137). -/
def forwardUntagged (f : Frame) (s : State) : State :=
  if Config.forwardCapacity ≤ s.forward.length then countForwardDrop s
  else { s with forward := s.forward ++ [⟨f, none, false, f.unit, none⟩] }

/-- A deferral finds no place or no tag (R134). -/
def relayFull (s : State) : Bool :=
  decide (Config.forwardCapacity ≤ s.forward.length ∨ Config.tagCapacity ≤ s.tagsInUse.length)

/-- The tag is allocated and the entry appended (R134, R135). -/
def acceptDeferral (f : Frame) (t : Tag) (s : State) : State :=
  { s with
    forward := s.forward ++
      [⟨f, some t, false, f.unit, some (s.clock + BitVec.ofNat 32 Config.deferralMs)⟩]
    lastTag := t
    tagsInUse := s.tagsInUse ++ [t] }

/-- A request is deferred: answered DEFERRED with its tag, or BUSY (R134). -/
def defer (f : Frame) (s : State) : State :=
  let busy := answerWith (relayResponse s f.unit .busy []) s
  if relayFull s then busy
  else
    match nextTag s.lastTag s.tagsInUse with
    | some t => answerWith (relayResponse s f.unit .deferred [byte t.val]) (acceptDeferral f t s)
    | none => busy

/-- A QUERY is taken: answered by proxy, or deferred (R130 to R134). -/
def takeQuery (a : Addr) (item : Byte) (extra : List Byte) (s : State) : State :=
  let unit := BitVec.ofNat 8 a.val
  match proxyAnswer s a item with
  | some payload => answerWith ⟨.reply, s.segmentByte, unit, payload⟩ s
  | none => defer ⟨.query, s.segmentByte, unit, item :: extra⟩ s

/-! ## Outcomes (R138 to R140) -/

/-- The DEFERRED REPLY of an entry that ends, if it is tagged (R138). -/
def endTagged (e : FwdEntry) (o : DeferralOutcome) (noisy : Bool) (data : List Byte) (s : State) :
    State :=
  match e.tag with
  | some t => offerDeferred ⟨t, o, noisy, data, e.unit⟩ s
  | none => s

/-- What the window's outcome is to a tagged entry (R138). -/
def deferredOutcome (e : FwdEntry) (o : WindowOutcome) (s : State) : State :=
  match o with
  | .clean p => endTagged e .answered false (p.take 9) s
  | .noisy p => endTagged e .answered true (p.take 9) s
  | .badFraming => endTagged e .noAnswer false [] s
  | .badCheck => endTagged e .noAnswer false [] s
  | .noReply => endTagged e .noAnswer false [] s

/-- The head leaves the forward queue (R136). -/
def popForward (s : State) : State := { s with forward := s.forward.tail }

/-- The clock has reached the deadline: 500 ms have passed since the acceptance (R134, R139). -/
def deadlineReached (now deadline : Clock) : Bool :=
  (Stamp.mk (deadline - BitVec.ofNat 32 Config.deferralMs) false).interval now ≥ Config.deferralMs

/-- The entry with this tag is WAITING and at its deadline (R139). -/
def FwdEntry.expired (now : Clock) (t : Tag) (e : FwdEntry) : Bool :=
  e.tag == some t && !e.onRow &&
    (match e.deadline with
     | some d => deadlineReached now d
     | none => false)

/-- A WAITING tagged entry leaves at its deadline (R139). -/
def expire (t : Tag) (s : State) : State :=
  match s.forward.find? (FwdEntry.expired s.clock t) with
  | some e =>
    endTagged e (if s.power.present then .timeout else .noPower) false []
      { s with forward := s.forward.eraseP (FwdEntry.expired s.clock t) }
  | none => s

/-- One entry leaves at loss of row power: NO POWER, or dropped and counted (R140). -/
def flushEntry (s : State) (e : FwdEntry) : State :=
  match e.tag with
  | some _ => endTagged e .noPower false [] s
  | none => countForwardDrop s

/-- Every entry leaves at loss of row power, from head to tail (R140). -/
def flushForward (s : State) : State :=
  s.forward.foldl flushEntry { s with forward := [] }

end Sys2Proof.Machine
end

