-- ==== Sys2Proof/Machine/Verify.lean ====
section
/-! DEFINITION. The verification unit (09): the verify sweep, its outcomes and luminaire health, and alignment turns. -/

namespace Sys2Proof.Machine

/-! ## Candidates (R145, R151) -/

/-- An entry the probe round lets a search visit: GOOD, or FAULT in probe round 0 (R146, R151). -/
def probeAllows (l : Lum) (probe : Fin 8) : Bool := l.health == .good || probe == 0

/-- The verify interval has run out since a recorded time (R145, R151). -/
def verifyIntervalOver (s : State) (t : Stamp) : Bool :=
  decide (s.settings.verifyInterval ≤ t.interval s.clock)

/-- The entry is a LUMINAIRE in SYNCED. -/
def State.isSynced (s : State) (a : Addr) : Bool := s.isLum a && (s.lum a).shadow == .synced

/-- The class F candidate stands (R145). -/
def verifyOffered (s : State) : Bool :=
  s.power.present && verifyIntervalOver s s.verify.last && addresses.any s.isSynced

/-- The entry qualifies for alignment (R151). -/
def alignQualifies (s : State) (a : Addr) : Bool :=
  s.isLum a && !(s.lum a).aligned && probeAllows (s.lum a) s.verify.probe

/-- The alignment hold of a failure has run out (R151). -/
def alignHoldOver (s : State) : Bool :=
  match s.verify.alignFail with
  | none => true
  | some t => verifyIntervalOver s t

/-- The class E candidate stands (R151). -/
def alignOffered (s : State) : Bool :=
  s.power.present && alignHoldOver s && addresses.any (alignQualifies s)

/-! ## Searches (R146, R151) -/

/-- The address after one, 63 being followed by 0. -/
def Addr.succ (a : Addr) : Addr := Fin.ofNat 64 (a.val + 1)

/-- The probe round after the pointer advances from an address: a wrap from 63 to 0 advances it modulo 8 (R146). -/
def probeAfter (a : Addr) (probe : Fin 8) : Fin 8 :=
  if a.val = 63 then Fin.ofNat 8 (probe.val + 1) else probe

/-- The verify search: the entry found, and the probe round at it (R146). -/
def verifySearch (s : State) : Nat → Addr → Fin 8 → Option (Addr × Fin 8)
  | 0, _, _ => none
  | fuel + 1, a, probe =>
    if s.isSynced a && probeAllows (s.lum a) probe then some (a, probe)
    else verifySearch s fuel (Addr.succ a) (probeAfter a probe)

/-- Eight wraps and one address: the search ends within them (R146). -/
def verifySearchLimit : Nat := 577

/-- The alignment search: the entry found (R151). -/
def alignSearch (s : State) : Nat → Addr → Option Addr
  | 0, _ => none
  | fuel + 1, a => if alignQualifies s a then some a else alignSearch s fuel (Addr.succ a)

/-! ## Outcomes (R147 to R149) -/

/-- The verify record is emptied (R147). -/
def dropVerifyRecord (s : State) : State :=
  { s with verify := { s.verify with record := none } }

/-- The outcome applies to the recorded entry: still a LUMINAIRE in SYNCED with the recorded S valid (R147). -/
def verifyApplies (s : State) (r : VerifyRecord) : Bool :=
  s.isSynced r.addr && (s.lum r.addr).sentValid && (s.lum r.addr).sent == r.level

/-- A GOOD entry whose count has reached 3 becomes FAULT, with the event (R149). -/
def judgeFault (r : VerifyRecord) (cause : FaultCause) (count : Nat) (s : State) : State :=
  if (s.lum r.addr).health = .good ∧ 3 ≤ count then
    raise (.luminaireFault r.addr cause r.level)
      (s.setLum r.addr { s.lum r.addr with health := .fault })
  else s

/-- A confirming reply (R148). -/
def verifyConfirmed (r : VerifyRecord) (s : State) : State :=
  let l := { s.lum r.addr with mismatches := 0, misses := 0 }
  if l.health = .fault then
    raise (.luminaireRecovered r.addr r.level) (s.setLum r.addr { l with health := .good })
  else s.setLum r.addr l

/-- A mismatching reply (R148, R33): the miss count becomes 0 whatever the health, also of a FAULT entry whose miss count is 3 (log entry 31). -/
def verifyMismatch (r : VerifyRecord) (s : State) : State :=
  let n := min 3 ((s.lum r.addr).mismatches + 1)
  judgeFault r .mismatch n
    (reportMismatch r.addr (s.setLum r.addr { s.lum r.addr with mismatches := n, misses := 0 }))

/-- A miss (R149). -/
def verifyMiss (r : VerifyRecord) (s : State) : State :=
  let n := min 3 ((s.lum r.addr).misses + 1)
  judgeFault r .miss n (s.setLum r.addr { s.lum r.addr with misses := n })

/-- The outcome is applied (R148, R149). -/
def applyVerify (r : VerifyRecord) (o : WindowOutcome) (s : State) : State :=
  match o with
  | .clean p => if payload16 p 0 = r.level then verifyConfirmed r s else verifyMismatch r s
  | .noisy _ => s
  | .badFraming => verifyMiss r s
  | .badCheck => verifyMiss r s
  | .noReply => verifyMiss r s

/-- The outcome of a verify query is taken (R147). -/
def verifyOutcome (o : WindowOutcome) (s : State) : State :=
  match s.verify.record with
  | none => s
  | some r =>
    let s := dropVerifyRecord s
    if verifyApplies s r then applyVerify r o s else s

/-! ## Alignment outcomes (R37, R152) -/

/-- The outcome is of account: the entry is still the LUMINAIRE of the recorded zone (R37, R38). -/
def alignApplies (s : State) (r : AlignRecord) : Bool :=
  !r.disregard && s.isLum r.addr && (s.row r.addr).zone == r.zone

/-- A clean reply whose first byte is DONE (R37). -/
def alignDone : WindowOutcome → Bool
  | .clean p => p.head? == some 0
  | _ => false

/-- The outcome of an alignment request is taken (R37, R152). -/
def alignOutcome (o : WindowOutcome) (s : State) : State :=
  match s.verify.alignRecord with
  | none => s
  | some r =>
    let s := { s with verify := { s.verify with alignRecord := none } }
    if alignApplies s r then
      if alignDone o then
        { s.setLum r.addr { s.lum r.addr with aligned := true } with
          verify := { s.verify with alignFail := none } }
      else { s with verify := { s.verify with alignFail := some s.stamp } }
    else s

/-- A role change of an address makes an alignment request to it of no account (R38). -/
def disregardAlignment (a : Addr) (s : State) : State :=
  match s.verify.alignRecord with
  | some r =>
    if r.addr = a then
      { s with verify := { s.verify with alignRecord := some { r with disregard := true } } }
    else s
  | none => s

/-- Row power becomes ABSENT at the verification unit: the windows are closed without outcome (R153). -/
def verifyLost (s : State) : State :=
  { s with verify := { s.verify with record := none, alignRecord := none } }

end Sys2Proof.Machine
end

