-- ==== Sys2Proof/Machine/Arbiter.lean ====
section
/-! DEFINITION. The row emitter and the row arbiter (07): the transmitter's state, candidates, the choice, and the frames formed at the take. -/

namespace Sys2Proof.Machine

/-! ## The transmitter (R113) -/

/-- The five states of the row transmitter (R113). -/
inductive TransmitterState where
  | powerless | sending | awaitingReply | gap | ready
deriving DecidableEq, Repr

/-- The time at which the frame on the row ends, and its window opens if it has one (R4, R9). -/
def RowFrame.endTime (f : RowFrame) : Nat := f.since + f.frame.time

/-- The frame on the row has ended (R4). -/
def frameOver (s : State) (f : RowFrame) : Bool := decide (f.endTime ≤ s.portTime)

/-- The state of the row transmitter (R113): after the end of a frame that opens a window it awaits the reply (log entry 14). -/
def State.transmitter (s : State) : TransmitterState :=
  match s.rowTx with
  | .powerless => .powerless
  | .gap => .gap
  | .ready => .ready
  | .onRow f => if f.frame.opensWindow && frameOver s f then .awaitingReply else .sending

/-- What has come to the window in time: silence up to its 20 ms point, or a frame that began after the opening and within 20 ms of it (R9; a frame that begins at the 20 ms point itself is a reply, log entry 3). -/
def inWindow (s : State) (f : RowFrame) : WindowReply → Bool
  | .silence => decide (f.endTime + Config.windowUs ≤ s.portTime)
  | .frame _ lasted =>
    decide (f.endTime + lasted ≤ s.portTime ∧ s.portTime ≤ f.endTime + lasted + Config.windowUs)

/-- The window of the frame on the row closes with this reply: it is open, and the reply has come in time (R9). -/
def windowCloses (s : State) (f : RowFrame) (w : WindowReply) : Bool :=
  f.frame.opensWindow && frameOver s f && inWindow s f w

/-- A frame that opens no window completes at its end (R12). -/
def frameCompletes (s : State) (f : RowFrame) : Bool := !f.frame.opensWindow && frameOver s f

/-- A frame of the part starts on the row (R114). -/
def startRow (f : Frame) (o : RowOwner) (s : State) : State :=
  { s with rowTx := .onRow ⟨f, o, s.portTime⟩ }

/-! ## Candidates (R114 to R116) -/

/-- The six candidate classes (07, Candidates). -/
inductive CandidateClass where
  | a | b | c | d | e | f
deriving DecidableEq, Repr

/-- Some pending entry is urgent (R115). -/
def anyUrgent (s : State) : Bool := s.pendingList.any fun a => (s.lum a).urgent

/-- The head of the forward queue is WAITING (R116). -/
def forwardOffered (s : State) : Bool :=
  match s.forward with
  | e :: _ => !e.onRow
  | [] => false

/-- The scan controller offers the query of its next channel (R48). -/
def scanOffered (s : State) : Bool :=
  s.scan.state == .scanning && !s.scan.onRow && s.scan.next.isSome

/-- Whether the candidate of a class stands (R114 to R116, R145, R151). -/
def stands (s : State) : CandidateClass → Bool
  | .a => anyUrgent s
  | .b => forwardOffered s
  | .c => scanOffered s
  | .d => !s.pendingList.isEmpty && !anyUrgent s
  | .e => alignOffered s
  | .f => verifyOffered s

/-! ## The choice (R117 to R120) -/

/-- The first query of a scan that is not urgent yields to lower classes (R119). -/
def scanYields (s : State) : Bool := !s.scan.urgent && s.scan.lastQueried.isNone

/-- The order in which the classes rank (R118 to R120). -/
def ranking (s : State) : List CandidateClass :=
  if s.starvation = Config.starvationLimit ∧ scanOffered s = true then [.c, .a, .b, .d, .e, .f]
  else if scanOffered s = true ∧ s.scan.urgent = true then [.a, .c, .b, .d, .e, .f]
  else if scanOffered s = true ∧ scanYields s = true then
    if s.lowerTurn then [.a, .b, .d, .c, .e, .f] else [.a, .b, .d, .e, .f, .c]
  else [.a, .b, .c, .d, .e, .f]

/-- The class the arbiter takes, if a candidate stands (R117). -/
def chosen (s : State) : Option CandidateClass := (ranking s).find? (stands s)

/-- One more in the starvation count when a frame of class A or B starts while a class C candidate stands (R120). -/
def countStarvation (s : State) : State :=
  if scanOffered s then { s with starvation := min Config.starvationLimit (s.starvation + 1) } else s

/-! ## Level frames (R121 to R124) -/

/-- The head of a level frame: the oldest urgent entry, else the oldest (R121). -/
def levelHead (s : State) : Option Addr :=
  match s.pendingList.find? fun a => (s.lum a).urgent with
  | some a => some a
  | none => s.pendingList.head?

/-- A member that may share the head's zone frame (R122). -/
def sharesFrame (s : State) (head a : Addr) : Bool :=
  (s.lum a).aligned && (s.lum a).shadow == .pending &&
    (s.lum a).output == (s.lum head).output && (s.lum a).emissionFade == (s.lum head).emissionFade

/-- The members of the head's zone, when a zone frame can be formed (R122). -/
def zoneCover (s : State) (head : Addr) : Option (ZoneId × List Addr) :=
  match (s.row head).zone with
  | none => none
  | some z =>
    if 2 ≤ (s.members z).length ∧ (s.members z).all (sharesFrame s head) = true
    then some (z, s.members z) else none

/-- A SET LEVEL of the part (R122, R123). -/
def levelFrame (s : State) (unit : Byte) (head : Addr) : Frame :=
  ⟨.setLevel, s.segmentByte, unit,
    bytes16 (s.lum head).output ++ [byte (s.lum head).emissionFade.val]⟩

/-- A level frame starts: the covered entries are IN FLIGHT and the emission record is made (R124, R31). -/
def emit (unit : Byte) (head : Addr) (covered : List Addr) (s : State) : State :=
  let level := (s.lum head).output
  let started := startRow (levelFrame s unit head) .level s
  covered.foldl (startCovered level) { started with emission := some ⟨covered, level⟩ }

/-- The level emission candidate is taken (R121 to R124). -/
def takeLevel (s : State) : State :=
  match levelHead s with
  | none => s
  | some head =>
    match zoneCover s head with
    | some (z, covered) => emit (BitVec.ofNat 8 (64 + z.val)) head covered s
    | none => emit (BitVec.ofNat 8 head.val) head [head] s

/-! ## The other classes -/

/-- Class B: the head of the forward queue starts; a SET GROUPS clears alignment (R116, R136, R108). -/
def takeForward (s : State) : State :=
  match s.forward with
  | [] => s
  | e :: q =>
    let s := startRow e.frame .forward { s with forward := { e with onRow := true } :: q }
    if e.frame.isSetGroups then clearAligned e.frame s else s

/-- Class C: the next scan query starts, to the unit its channel names now; the starvation count is 0 (R48, R120). -/
def takeScan (s : State) : State :=
  match s.scan.next with
  | none => s
  | some c =>
    match (s.channelConfig c).unit with
    | none => s
    | some u =>
      startRow ⟨.query, s.segmentByte, BitVec.ofNat 8 u.val, [8]⟩ (.scan c)
        { s with
          scan := { s.scan with
            next := none, lastQueried := some c, onRow := true, disregard := false }
          starvation := 0 }

/-- The mask of an alignment request: the bit of the entry's zone, or no bit (R37). -/
def alignMask (zone : Option ZoneId) : Nat :=
  match zone with
  | some z => 2 ^ z.val
  | none => 0

/-- Class E: an alignment request starts (R37, R151). The lower-turn flag is set (R119). -/
def takeAlignment (s : State) : State :=
  match alignSearch s 64 s.verify.alignPointer with
  | none => s
  | some a =>
    let zone := (s.row a).zone
    startRow ⟨.deviceConfig, s.segmentByte, BitVec.ofNat 8 a.val, 1 :: bytes16 (alignMask zone)⟩
      .alignment
      { s with
        lowerTurn := true
        verify := { s.verify with
          alignPointer := Addr.succ a, alignRecord := some ⟨a, zone, false⟩ } }

/-- Class F: a verify query starts (R146). The lower-turn flag is set (R119). -/
def takeVerify (s : State) : State :=
  match verifySearch s verifySearchLimit s.verify.pointer s.verify.probe with
  | none => s
  | some (a, probe) =>
    startRow ⟨.query, s.segmentByte, BitVec.ofNat 8 a.val, [1]⟩ .verify
      { s with
        lowerTurn := true
        verify := { s.verify with
          pointer := Addr.succ a
          probe := probeAfter a probe
          last := s.stamp
          record := some ⟨a, (s.lum a).sent⟩ } }

/-- The candidate of a class is taken: its frame is formed and starts (R114, R117). -/
def take (s : State) : CandidateClass → State
  | .a => takeLevel (countStarvation s)
  | .b => takeForward (countStarvation s)
  | .c => takeScan s
  | .d => takeLevel s
  | .e => takeAlignment s
  | .f => takeVerify s

/-- The arbiter chooses when the transmitter is READY and a candidate stands (R117). -/
def arbitrate (s : State) : State :=
  if s.rowTx = .ready then
    match chosen s with
    | some k => take s k
    | none => s
  else s

/-! ## Completions and aborts (R125, R126) -/

/-- A level frame completes: each covered entry is settled, in ascending order (R125, R32). -/
def finishLevel (s : State) : State :=
  match s.emission with
  | none => enterGap s
  | some m =>
    enterGap { m.covered.foldl (completeCovered m.level) s with emission := none }

/-- Loss of row power at the transmitter, the emitter and the arbiter: the frame is aborted (R113, R126, R129). Activity of another party that is in progress stays so (log entry 33). -/
def rowPortLost (s : State) : State :=
  { s with
    rowTx := .powerless, rowActivity := s.portTime
    emission := none, starvation := 0 }

end Sys2Proof.Machine
end

