-- ==== Sys2Proof/Machine/Absorber.lean ====
section
/-! DEFINITION. The command absorber (06): SET LEVEL and DEVICE CONFIG from the trunk. -/

namespace Sys2Proof.Machine

/-- The taken level: at most 1000 (R98). -/
def takenLevel (level : BitVec 16) : Nat := min level.toNat 1000

/-- The taken fade code: at most 15 (R98). -/
def takenFade (fade : Byte) : Fade := if h : fade.toNat < 16 then ⟨fade.toNat, h⟩ else 15

/-- A SET LEVEL is absorbed into one luminaire: B and base fade, then an urgent update with the output of the new B (R79, R99). -/
def absorb (level : Nat) (fade : Fade) (s : State) (a : Addr) : State :=
  let s := s.setLum a { s.lum a with base := level, baseFade := fade }
  outputUpdate a (s.outputOf a) true fade s

/-- A SET LEVEL is absorbed into several luminaires in ascending order (R100, R101). -/
def absorbAll (level : Nat) (fade : Fade) (as : List Addr) (s : State) : State :=
  as.foldl (absorb level fade) s

/-- The frame a SET LEVEL is forwarded as: the received bytes, with the part's segment number (R104). -/
def forwardedLevel (s : State) (unit : Byte) (level : BitVec 16) (fade : Byte) (extra : List Byte) :
    Frame :=
  ⟨.setLevel, s.segmentByte, unit, bytes16 level.toNat ++ fade :: extra⟩

/-- The LUMINAIRE members of a trunk group, ascending (R26, R100). -/
def State.groupMembers (s : State) (g : GroupId) : List Addr :=
  addresses.filter fun a => s.isLum a && (s.tables.groups[g.val]).getLsbD a.val

/-- SET LEVEL to one short address (R99, R102, R103). -/
def setLevelUnit (a : Addr) (level : BitVec 16) (fade : Byte) (extra : List Byte) (s : State) : State :=
  if s.isLum a then absorb (takenLevel level) (takenFade fade) s a
  else forwardUntagged (forwardedLevel s (Target.unit a).byte level fade extra) s

/-- SET LEVEL to a group (R100, R103). -/
def setLevelGroup (g : GroupId) (level : BitVec 16) (fade : Byte) (extra : List Byte) (s : State) :
    State :=
  if s.harvesting then absorbAll (takenLevel level) (takenFade fade) (s.groupMembers g) s
  else forwardUntagged (forwardedLevel s (Target.group g).byte level fade extra) s

/-- SET LEVEL to unit 127 (R101, R103). -/
def setLevelAll (level : BitVec 16) (fade : Byte) (extra : List Byte) (s : State) : State :=
  if s.harvesting then absorbAll (takenLevel level) (takenFade fade) s.luminaires s
  else forwardUntagged (forwardedLevel s Target.all.byte level fade extra) s

/-- How a DEVICE CONFIG is treated (R105 to R107). -/
inductive ConfigTreatment where
  | owned | discarded | deferred | forwarded
deriving DecidableEq, Repr

/-- The treatment of a DEVICE CONFIG by its sub-kind, target, segment byte and the segment condition (R97, R105 to R107). -/
def configTreatment (s : State) (dest : Dest) (target : Target) (setGroups : Bool) : ConfigTreatment :=
  match target with
  | .unit a =>
    if setGroups = true ∧ s.isLum a = true then
      match dest with
      | .own => .owned
      | .all => .discarded
    else
      match dest with
      | .own => .deferred
      | .all => .forwarded
  | .group _ => if setGroups = true ∧ s.harvesting = true then .discarded else .forwarded
  | .all => if setGroups = true ∧ s.harvesting = true then .discarded else .forwarded

/-- A DEVICE CONFIG is taken (R105 to R107). The payload begins with the sub-kind. -/
def takeConfig (dest : Dest) (target : Target) (payload : List Byte) (s : State) : State :=
  let f : Frame := ⟨.deviceConfig, s.segmentByte, target.byte, payload⟩
  match configTreatment s dest target f.isSetGroups with
  | .owned => answerWith (relayResponse s target.byte .owned []) s
  | .discarded => s
  | .deferred => defer f s
  | .forwarded => forwardUntagged f s

end Sys2Proof.Machine
end

