-- ==== Sys2Proof/Machine/Levels.lean ====
section
/-! DEFINITION. The meanings of the level, device configuration and query commands. -/

namespace Sys2Proof.Machine

/-- SET_LEVEL_UNIT (R97 to R99, R102, R103). -/
def execSetLevelUnit (after : Nat) (_dest : Dest) (unit : Addr) (level : BitVec 16) (fade : Byte)
    (extra : List Byte) (s : State) : Host.Outcome State Fault Refusal :=
  .next (arbitrate (setLevelUnit unit level fade extra (trunkFrameEnd after s)))

/-- SET_LEVEL_GROUP (R97, R98, R100, R103). -/
def execSetLevelGroup (after : Nat) (_dest : Dest) (group : GroupId) (level : BitVec 16) (fade : Byte)
    (extra : List Byte) (s : State) : Host.Outcome State Fault Refusal :=
  .next (arbitrate (setLevelGroup group level fade extra (trunkFrameEnd after s)))

/-- SET_LEVEL_BROADCAST (R97, R98, R101, R103). -/
def execSetLevelBroadcast (after : Nat) (_dest : Dest) (level : BitVec 16) (fade : Byte)
    (extra : List Byte) (s : State) : Host.Outcome State Fault Refusal :=
  .next (arbitrate (setLevelAll level fade extra (trunkFrameEnd after s)))

/-- DEVICE_CONFIG_SET_GROUPS (R105 to R107). -/
def execDeviceConfigSetGroups (after : Nat) (dest : Dest) (target : Target) (mask : BitVec 16)
    (extra : List Byte) (s : State) : Host.Outcome State Fault Refusal :=
  .next (arbitrate (takeConfig dest target (1 :: bytes16 mask.toNat ++ extra) (trunkFrameEnd after s)))

/-- DEVICE_CONFIG (R106, R107). -/
def execDeviceConfig (after : Nat) (dest : Dest) (target : Target) (subKind : Byte)
    (extra : List Byte) (s : State) : Host.Outcome State Fault Refusal :=
  .next (arbitrate (takeConfig dest target (subKind :: extra) (trunkFrameEnd after s)))

/-- QUERY_TARGET_LEVEL (R131, R134). -/
def execQueryTargetLevel (after : Nat) (unit : Addr) (extra : List Byte) (s : State) :
    Host.Outcome State Fault Refusal :=
  .next (arbitrate (takeQuery unit 1 extra (trunkFrameEnd after s)))

/-- QUERY_LIGHT_READING (R132, R134). -/
def execQueryLightReading (after : Nat) (unit : Addr) (extra : List Byte) (s : State) :
    Host.Outcome State Fault Refusal :=
  .next (arbitrate (takeQuery unit 8 extra (trunkFrameEnd after s)))

/-- QUERY_OTHER_ITEM (R133, R134). -/
def execQueryOtherItem (after : Nat) (unit : Addr) (item : Byte) (extra : List Byte) (s : State) :
    Host.Outcome State Fault Refusal :=
  .next (arbitrate (takeQuery unit item extra (trunkFrameEnd after s)))

end Sys2Proof.Machine
end

