-- ==== Sys2Proof/Machine/Management.lean ====
section
/-! DEFINITION. The management unit (10): settling a MANAGE operation, writes and loads, zone modes, reads, the store. -/

namespace Sys2Proof.Machine

/-! ## Answers (R155, R156) -/

/-- What an operation answers: its status, the fresh-capture flag, and the bytes after the status byte. -/
structure Reply where
  status : Status
  fresh : Bool
  data : List Byte
deriving DecidableEq, Repr

/-- An answer of a status alone. -/
def Reply.plain (st : Status) : Reply := ⟨st, false, []⟩

/-- The RESPONSE frame of a MANAGE (R155; 11, MANAGE and RESPONSE). -/
def manageResponse (s : State) (req : Request) (r : Reply) : Frame :=
  ⟨.response, s.segmentByte, 126, statusByte r.status r.fresh req.number.toNat :: r.data⟩

/-- The RESPONSE is handed to the trunk transmitter when the segment byte is the part's own (R155). -/
def respond (req : Request) (p : Reply × State) : State :=
  match req.dest with
  | .own => answerWith (manageResponse p.2 req p.1) p.2
  | .all => p.2

/-- A store write is in progress (R156, R166). -/
def State.storeBusy (s : State) : Bool := s.store.writing.isSome

/-! ## Writes (R157) -/

/-- A WRITE ENTRY settled in the order of R156: index range, store write, field ranges, what the present state forbids. -/
def writeTable {α : Type} (n : Nat) (index : Byte) (parsed : Option α)
    (allowed : Fin n → α → State → Bool) (apply : Fin n → α → State → State) (s : State) :
    Reply × State :=
  if h : index.toNat < n then
    if s.storeBusy then (.plain .busy, s)
    else
      match parsed with
      | none => (.plain .range, s)
      | some v =>
        if allowed ⟨index.toNat, h⟩ v s then (.plain .ok, apply ⟨index.toNat, h⟩ v s)
        else (.plain .refused, s)
  else (.plain .range, s)

/-- Nothing in the present state forbids the write. -/
def always {n : Nat} {α : Type} (_ : Fin n) (_ : α) (_ : State) : Bool := true

/-! ### The row map (R38 to R40) -/

/-- Put a row map entry's configuration. -/
def State.setRow (s : State) (a : Addr) (r : RowConfig) : State :=
  { s with tables := { s.tables with rowMap := s.tables.rowMap.set a.val r } }

/-- A role is not taken away from a SENSOR that a channel names (R38). -/
def rowWriteAllowed (a : Addr) (r : RowConfig) (s : State) : Bool :=
  !((s.row a).role == .sensor && r.role != .sensor &&
    channelIds.any fun c => (s.channelConfig c).unit == some a)

/-- A new luminaire's fields before its output is found (R39). -/
def Lum.fresh (l : Lum) : Lum :=
  { l with
    base := 1000, baseFade := 0, emissionFade := 0, urgent := false, aligned := false
    health := .good, mismatches := 0, misses := 0, sentValid := false, shadow := .unknown }

/-- An entry becomes a LUMINAIRE (R39). -/
def newLuminaire (a : Addr) (s : State) : State :=
  let s := s.setLum a (s.lum a).fresh
  let l := { s.lum a with output := s.outputOf a }
  if s.power.present then joinPending a (s.setLum a { l with shadow := .pending })
  else s.setLum a l

/-- A LUMINAIRE entry's zone or P_min may have changed (R40). -/
def revisedLuminaire (a : Addr) (old new : RowConfig) (s : State) : State :=
  let s := if old.zone = new.zone then s else s.setLum a { s.lum a with aligned := false }
  if old.zone = new.zone ∧ old.pmin = new.pmin then s else recompute s a

/-- A row map write is taken (R38 to R40). -/
def applyRowWrite (a : Addr) (r : RowConfig) (s : State) : State :=
  let old := s.row a
  let s := s.setRow a r
  match old.role == .luminaire, r.role == .luminaire with
  | true, true => revisedLuminaire a old r s
  | true, false => disregardAlignment a (leaveLuminaire a s)
  | false, true => newLuminaire a s
  | false, false => s

/-- WRITE ENTRY, table 1. -/
def writeRow (index : Byte) (entry : BitVec 24) (s : State) : Reply × State :=
  writeTable 64 index (parseRow entry) rowWriteAllowed applyRowWrite s

/-! ### Zones (R62, R83, R84) -/

/-- Put a zone's configuration. -/
def State.setZoneConfig (s : State) (z : ZoneId) (c : ZoneConfig) : State :=
  { s with tables := { s.tables with zones := s.tables.zones.set z.val c } }

/-- A zone write is taken: a change of in use binds or unbinds (R62). -/
def applyZoneWrite (z : ZoneId) (c : ZoneConfig) (s : State) : State :=
  let was := (s.zoneConfig z).inUse
  let s := s.setZoneConfig z c
  match was, c.inUse with
  | false, true => bindZone z s
  | true, false => unbindZone z s
  | true, true => s
  | false, false => s

/-- WRITE ENTRY, table 2. -/
def writeZone (index : Byte) (entry : BitVec 64) (s : State) : Reply × State :=
  writeTable 16 index (parseZone entry) always applyZoneWrite s

/-! ### Channels (R44, R50) -/

/-- Put a channel's configuration. -/
def State.setChannelConfig (s : State) (c : ChannelId) (v : ChannelConfig) : State :=
  { s with tables := { s.tables with channels := s.tables.channels.set c.val v } }

/-- The sensor unit's entry has role SENSOR (R44). -/
def channelWriteAllowed (_ : ChannelId) (v : ChannelConfig) (s : State) : Bool :=
  match v.unit with
  | some a => (s.row a).role == .sensor
  | none => true

/-- The outcome of a query for the channel that is on the row is disregarded (R44). -/
def disregardQuery (c : ChannelId) (s : State) : State :=
  if s.scan.onRow = true ∧ s.scan.lastQueried = some c then
    { s with scan := { s.scan with disregard := true } }
  else s

/-- A channel write is taken: a changed sensor unit resets the status, and the scan follows (R44, R50). -/
def applyChannelWrite (c : ChannelId) (v : ChannelConfig) (s : State) : State :=
  let old := s.channelConfig c
  let s := s.setChannelConfig c v
  if old.unit = v.unit then s
  else reviseScan (disregardQuery c (s.setChannel c .initial))

/-- WRITE ENTRY, table 3. -/
def writeChannel (index : Byte) (entry : BitVec 24) (s : State) : Reply × State :=
  writeTable 8 index (parseChannel entry) channelWriteAllowed applyChannelWrite s

/-! ### Trunk groups, routes and settings (R26, R158, R45) -/

/-- Put a trunk group's members (R26). -/
def applyGroupWrite (g : GroupId) (v : BitVec 64) (s : State) : State :=
  { s with tables := { s.tables with groups := s.tables.groups.set g.val v } }

/-- WRITE ENTRY, table 5: any set is valid (R157). -/
def writeGroup (index : Byte) (entry : BitVec 64) (s : State) : Reply × State :=
  writeTable 16 index (some entry) always applyGroupWrite s

/-- Put an event route (R158). -/
def applyRouteWrite (k : Fin 11) (r : Route) (s : State) : State :=
  { s with tables := { s.tables with routes := s.tables.routes.set k.val r } }

/-- WRITE ENTRY, table 6. -/
def writeRoute (index : Byte) (entry : BitVec 16) (s : State) : Reply × State :=
  writeTable 11 index (parseRoute entry) always applyRouteWrite s

/-- A settings write is taken: a change of scan mode acts by R55, and a tick that the new mode or period makes due occurs at the write (R45, R55). -/
def applySettingsWrite (_ : Fin 1) (t : Settings) (s : State) : State :=
  let old := s.settings
  let s := modeChanged old.mode { s with tables := { s.tables with settings := t } }
  if old.mode = t.mode ∧ old.period = t.period then s else tickIfDue s

/-- WRITE ENTRY, table 7. -/
def writeSettings (index : Byte) (entry : BitVec 64) (s : State) : Reply × State :=
  writeTable 1 index (parseSettings entry) always applySettingsWrite s

/-- The number of entries of a table; no other number names a table (10, Tables). -/
def tableSize : Nat → Nat
  | 1 => 64
  | 2 => 16
  | 3 => 8
  | 4 => 16
  | 5 => 16
  | 6 => 11
  | 7 => 1
  | 8 => 16
  | 9 => 8
  | 10 => 64
  | _ => 0

/-- WRITE ENTRY to a table that is not written this way (R156, R157). -/
def writeReadOnly (table index : Byte) (s : State) : Reply × State :=
  if index.toNat < tableSize table.toNat then (.plain .refused, s) else (.plain .range, s)

/-! ### LOAD COEFFICIENTS (R159) -/

/-- The number of values a channel byte announces: count code + 1 (11, MANAGE and RESPONSE). -/
def loadCount (channelByte : Byte) : Nat := channelByte.toNat / 16 % 4 + 1

/-- The first channel a channel byte names. -/
def loadFirst (channelByte : Byte) : Nat := channelByte.toNat % 16

/-- The clear-rest flag of a channel byte. -/
def loadClears (channelByte : Byte) : Bool := channelByte.getLsbD 7

/-- A coefficient row after a load of `n` values from channel `first` (R159). -/
def loadedRow (row : Vector Nat 8) (first n : Nat) (clear : Bool) (values : List (BitVec 16)) :
    Vector Nat 8 :=
  Vector.ofFn fun c : ChannelId =>
    if first ≤ c.val ∧ c.val < first + n then ((values[c.val - first]?).map BitVec.toNat).getD row[c.val]
    else if clear = true ∧ first + n ≤ c.val then 0
    else row[c.val]

/-- LOAD COEFFICIENTS (R159, R156). -/
def loadCoefficients (zone channelByte : Byte) (values : List (BitVec 16)) (s : State) :
    Reply × State :=
  let first := loadFirst channelByte
  let n := loadCount channelByte
  if h : zone.toNat < 16 then
    if 7 < first ∨ 7 < first + n - 1 then (.plain .range, s)
    else if s.storeBusy then (.plain .busy, s)
    else if (values.take n).any (fun v => decide (4095 < v.toNat)) then (.plain .range, s)
    else
      (.plain .ok,
        { s with tables := { s.tables with
            coeffs := s.tables.coeffs.set zone.toNat
              (loadedRow s.tables.coeffs[zone.toNat] first n (loadClears channelByte) values) } })
  else (.plain .range, s)

/-! ## SET ZONE MODE (R89 to R93) -/

/-- The bound zones, ascending (R93). -/
def State.boundZones (s : State) : List ZoneId :=
  zoneIds.filter fun z => (s.zone z).mode != .unbound

/-- SET ZONE MODE to the mode of code `code` (R89 to R93). With zone field 255 the bound zones follow one another in ascending order, each handing over the updates of its members, as R93 has it; where zones interleave, R27 would have all of them in ascending short address order (log entry 29). -/
def setZoneMode (code : Nat) (change : ZoneStatus → ZoneStatus) (zone mode : Byte) (s : State) :
    Reply × State :=
  if h : zone.toNat < 16 then
    let z : ZoneId := ⟨zone.toNat, h⟩
    if mode.toNat ≠ code then (.plain .range, s)
    else if (s.zone z).mode = .unbound then (.plain .refused, s)
    else
      let s := changeMode change s z
      (⟨.ok, false, byte (zoneModeCode (s.zone z).mode) :: bytes16 (s.zone z).ratio⟩, s)
  else if zone.toNat = 255 then
    if mode.toNat ≠ code then (.plain .range, s)
    else (⟨.ok, false, [byte s.boundZones.length]⟩, s.boundZones.foldl (changeMode change) s)
  else (.plain .range, s)

/-! ## TRIGGER SCAN, COMMIT, RESTART (R160, R166, R169) -/

/-- TRIGGER SCAN (R160). -/
def triggerScan (s : State) : Reply × State :=
  if s.settings.mode = .off then (.plain .refused, s)
  else
    let s := trigger false s
    (⟨.ok, false, scanBytes s.scan⟩, s)

/-- COMMIT (R166). -/
def commit (s : State) : Reply × State :=
  if s.storeBusy then (.plain .busy, s)
  else
    (.plain .accepted,
      { s with store := { s.store with writing := some ⟨imageOf s.tables, s.stamp⟩ } })

/-- RESTART schedules a warm restart: at the end of its answer, or at once when none is sent (R169). -/
def scheduleRestart (dest : Dest) (s : State) : Reply × State :=
  if s.storeBusy then (.plain .refused, s)
  else
    (.plain .ok,
      { s with restart := match dest with
          | .own => .afterAnswer
          | .all => .due })

/-! ## Reads (R161 to R164) -/

/-- An entry as its table is read, if the table and index exist (R161; 11, Table entries). -/
def readEntry (s : State) (table index : Nat) : Option (List Byte) :=
  match table with
  | 1 => if h : index < 64 then some (rowBytes (s.row ⟨index, h⟩)) else none
  | 2 => if h : index < 16 then some (zoneBytes (s.zoneConfig ⟨index, h⟩)) else none
  | 3 => if h : index < 8 then some (channelBytes (s.channelConfig ⟨index, h⟩)) else none
  | 4 => if h : index < 16 then some (coeffBytes s.tables.coeffs[index]) else none
  | 5 => if h : index < 16 then some (bytes64 s.tables.groups[index]) else none
  | 6 => if h : index < 11 then some (routeBytes s.tables.routes[index]) else none
  | 7 => if index = 0 then some (settingsBytes s.settings) else none
  | 8 => if h : index < 16 then some (zoneStatusBytes (s.zone ⟨index, h⟩)) else none
  | 9 => if h : index < 8 then some (channelStatusBytes (s.channel ⟨index, h⟩)) else none
  | 10 => if h : index < 64 then some (lumBytes (s.lum ⟨index, h⟩)) else none
  | _ => none

/-- The bytes of an entry's first part: all of it but in tables 4 and 8 (11, Table entries). -/
def firstPartLength : Nat → Nat
  | 4 => 8
  | 8 => 6
  | _ => 10

/-- Entries read in two parts (11, Table entries). -/
def hasTwoParts (table : Nat) : Bool := table == 4 || table == 8

/-- READ ENTRY part 0 (R161). -/
def readPart0 (table index part : Nat) (s : State) : Reply × State :=
  match readEntry s table index with
  | none => (.plain .range, s)
  | some bytes =>
    if part ≠ 0 then (.plain .range, s)
    else
      (⟨.ok, false, bytes.take (firstPartLength table)⟩,
        { s with snapshot := some (.entry table index bytes) })

/-- The capture that serves a part 1, if the snapshot buffer holds it (R162). -/
def matchingCapture (s : State) (table index : Nat) : Option (List Byte) :=
  match s.snapshot with
  | some (.entry t i bytes) => if t = table ∧ i = index then some bytes else none
  | some (.status _) => none
  | none => none

/-- READ ENTRY part 1 (R162). -/
def readPart1 (table index : Nat) (s : State) : Reply × State :=
  match readEntry s table index with
  | none => (.plain .range, s)
  | some now =>
    if hasTwoParts table = false then (.plain .range, s)
    else
      match matchingCapture s table index with
      | some bytes => (⟨.ok, false, bytes.drop (firstPartLength table)⟩, s)
      | none => (⟨.ok, true, now.drop (firstPartLength table)⟩, s)

/-- READ STATUS part 0 (R163). -/
def readStatus0 (part : Nat) (s : State) : Reply × State :=
  if part ≠ 0 then (.plain .range, s)
  else (⟨.ok, false, statusBytes s⟩, { s with snapshot := some (.status (statusBytes s)) })

/-- The snapshot buffer holds a status capture (R164). -/
def holdsStatus (s : State) : Bool :=
  match s.snapshot with
  | some (.status _) => true
  | _ => false

/-- READ STATUS part 1: the counters are read and reset (R164). -/
def readStatus1 (s : State) : Reply × State :=
  (⟨.ok, !holdsStatus s, counterBytes s⟩, { s with counters := .zero })

/-- A read is taken only when an answer can carry it (R155). -/
def answerRead (req : Request) (read : State → Reply × State) (s : State) : State :=
  match req.dest with
  | .own => respond req (read s)
  | .all => s

/-! ## The end of a store write (R167) -/

/-- The write has lasted 600 ms (R167). -/
def writeOver (s : State) (w : StoreWrite) : Bool :=
  decide (Config.storeWriteMs ≤ w.start.interval s.clock)

/-- What the store holds at the end of a write. -/
def foundImage (w : StoreWrite) : ReadBack → StoreImage
  | .captured => w.image
  | .other i => i

/-- The store write ends: DONE when the store holds the captured image, FAILED otherwise (R167). -/
def endWrite (w : StoreWrite) (found : ReadBack) (s : State) : State :=
  let held := foundImage w found
  let result : StoreResult := if held = w.image then .done else .failed
  raise (.storeResult result) { s with store := ⟨some held, none, result⟩ }

end Sys2Proof.Machine
end

