-- ==== Sys2Proof/Machine/Manage.lean ====
section
/-! DEFINITION. The meanings of the MANAGE commands and of the end of a store write (10). -/

namespace Sys2Proof.Machine

/-- READ_ENTRY_PART_0 (R161). -/
def execReadEntryPart0 (after : Nat) (req : Request) (table index part : Byte) (s : State) :
    Host.Outcome State Fault Refusal :=
  .next (answerRead req (readPart0 table.toNat index.toNat part.toNat) (trunkFrameEnd after s))

/-- READ_ENTRY_PART_1 (R162). -/
def execReadEntryPart1 (after : Nat) (req : Request) (table index : Byte) (s : State) :
    Host.Outcome State Fault Refusal :=
  .next (answerRead req (readPart1 table.toNat index.toNat) (trunkFrameEnd after s))

/-- WRITE_ROW_MAP_ENTRY (R38 to R40). -/
def execWriteRowMapEntry (after : Nat) (req : Request) (index : Byte) (entry : BitVec 24) (s : State) :
    Host.Outcome State Fault Refusal :=
  .next (arbitrate (respond req (writeRow index entry (trunkFrameEnd after s))))

/-- WRITE_ZONE_CONFIG (R62, R83, R84). -/
def execWriteZoneConfig (after : Nat) (req : Request) (index : Byte) (entry : BitVec 64) (s : State) :
    Host.Outcome State Fault Refusal :=
  .next (arbitrate (respond req (writeZone index entry (trunkFrameEnd after s))))

/-- WRITE_CHANNEL_CONFIG (R44, R50). -/
def execWriteChannelConfig (after : Nat) (req : Request) (index : Byte) (entry : BitVec 24)
    (s : State) : Host.Outcome State Fault Refusal :=
  .next (arbitrate (respond req (writeChannel index entry (trunkFrameEnd after s))))

/-- WRITE_TRUNK_GROUP_MAP (R26). -/
def execWriteTrunkGroupMap (after : Nat) (req : Request) (index : Byte) (entry : BitVec 64)
    (s : State) : Host.Outcome State Fault Refusal :=
  .next (respond req (writeGroup index entry (trunkFrameEnd after s)))

/-- WRITE_EVENT_ROUTE (R158). -/
def execWriteEventRoute (after : Nat) (req : Request) (index : Byte) (entry : BitVec 16) (s : State) :
    Host.Outcome State Fault Refusal :=
  .next (respond req (writeRoute index entry (trunkFrameEnd after s)))

/-- WRITE_SETTINGS (R45, R55, R144). -/
def execWriteSettings (after : Nat) (req : Request) (index : Byte) (entry : BitVec 64) (s : State) :
    Host.Outcome State Fault Refusal :=
  .next (arbitrate (respond req (writeSettings index entry (trunkFrameEnd after s))))

/-- WRITE_ENTRY_READ_ONLY (R157). -/
def execWriteEntryReadOnly (after : Nat) (req : Request) (table index : Byte) (s : State) :
    Host.Outcome State Fault Refusal :=
  .next (respond req (writeReadOnly table index (trunkFrameEnd after s)))

/-- LOAD_COEFFICIENTS (R159). -/
def execLoadCoefficients (after : Nat) (req : Request) (zone channelByte : Byte)
    (values : List (BitVec 16)) (s : State) : Host.Outcome State Fault Refusal :=
  .next (respond req (loadCoefficients zone channelByte values (trunkFrameEnd after s)))

/-- SET_ZONE_MODE_HOLD (R89, R90, R93). -/
def execSetZoneModeHold (after : Nat) (req : Request) (zone mode : Byte) (s : State) :
    Host.Outcome State Fault Refusal :=
  .next (arbitrate (respond req (setZoneMode 2 holdZone zone mode (trunkFrameEnd after s))))

/-- SET_ZONE_MODE_MANUAL (R89, R91, R93). -/
def execSetZoneModeManual (after : Nat) (req : Request) (zone mode : Byte) (s : State) :
    Host.Outcome State Fault Refusal :=
  .next (arbitrate (respond req (setZoneMode 3 manualZone zone mode (trunkFrameEnd after s))))

/-- SET_ZONE_MODE_TRACK (R89, R92, R93). -/
def execSetZoneModeTrack (after : Nat) (req : Request) (zone mode : Byte) (s : State) :
    Host.Outcome State Fault Refusal :=
  .next (arbitrate (respond req (setZoneMode 1 trackZone zone mode (trunkFrameEnd after s))))

/-- TRIGGER_SCAN (R160). -/
def execTriggerScan (after : Nat) (req : Request) (s : State) : Host.Outcome State Fault Refusal :=
  .next (arbitrate (respond req (triggerScan (trunkFrameEnd after s))))

/-- COMMIT (R166). -/
def execCommit (after : Nat) (req : Request) (s : State) : Host.Outcome State Fault Refusal :=
  .next (respond req (commit (trunkFrameEnd after s)))

/-- RESTART (R169). -/
def execRestart (after : Nat) (req : Request) (s : State) : Host.Outcome State Fault Refusal :=
  .next (respond req (scheduleRestart req.dest (trunkFrameEnd after s)))

/-- READ_STATUS_PART_0 (R163). -/
def execReadStatusPart0 (after : Nat) (req : Request) (part : Byte) (s : State) :
    Host.Outcome State Fault Refusal :=
  .next (answerRead req (readStatus0 part.toNat) (trunkFrameEnd after s))

/-- READ_STATUS_PART_1 (R164). -/
def execReadStatusPart1 (after : Nat) (req : Request) (s : State) : Host.Outcome State Fault Refusal :=
  .next (answerRead req readStatus1 (trunkFrameEnd after s))

/-- UNKNOWN_OPERATION (R156). -/
def execUnknownOperation (after : Nat) (req : Request) (_op : Byte) (s : State) :
    Host.Outcome State Fault Refusal :=
  .next (respond req (.plain .unknownOperation, trunkFrameEnd after s))

/-- A store write that is over ends (R167). -/
def endWriteIfOver (found : ReadBack) (s : State) : State :=
  match s.store.writing with
  | some w => if writeOver s w then endWrite w found s else s
  | none => s

/-- STORE_WRITE_END (R167). -/
def execStoreWriteEnd (after : Nat) (found : ReadBack) (s : State) : Host.Outcome State Fault Refusal :=
  .next (arbitrate (endWriteIfOver found (passTime after s)))

end Sys2Proof.Machine
end

