-- ==== Sys2Proof/Machine/Restart.lean ====
section
/-! DEFINITION. Power-on, warm restart, and the changes of row power, as they act on every block (R20, R34, R56, R140, R153, R168 to R170). -/

namespace Sys2Proof.Machine

/-! ## Power-on (R168) -/

/-- A zone's status after a restart (R63, R96). -/
def restartZone (c : ZoneConfig) : ZoneStatus :=
  { ZoneStatus.initial with mode := if c.inUse then .track else .unbound }

/-- The zone table after a restart (R63). -/
def restartZones (t : Tables) : Vector ZoneStatus 16 :=
  Vector.ofFn fun z : ZoneId => restartZone t.zones[z.val]

/-- The outputs of all luminaires are recomputed as part of a restart (R41, R80). -/
def recomputeAll (s : State) : State :=
  { s with lums := Vector.ofFn fun a : Addr =>
      if s.isLum a then { s.lum a with output := s.outputOf a } else s.lum a }

/-- What the store holds at power-on: an image left by an interrupted write fails its check (R167). -/
def storedImage (s : State) : Option StoreImage :=
  if s.store.writing.isSome then none else s.store.image

/-- The tables loaded at power-on and the cause that RESTARTED names (R168). -/
def loadTables (image : Option StoreImage) : Tables × RestartCause :=
  match image with
  | some i => if i.passes then (i.tables, .powerOn) else (defaultTables, .defaults)
  | none => (defaultTables, .defaults)

/-- Every block at its power-on value, with the tables loaded (R168). -/
def powerOnBlocks (straps : Fin 16) (above : Bool) (s : State) : State :=
  let t := (loadTables (storedImage s)).1
  recomputeAll
    { State.reset with
      pending := s.pending
      segment := straps
      tables := t
      zones := restartZones t
      power := ⟨false, above, 0⟩
      upstream := []
      store := ⟨storedImage s, none, .none⟩ }

/-- Power-on: as the last step RESTARTED is raised (R168). -/
def powerOn (straps : Fin 16) (above : Bool) (s : State) : State :=
  raise (.restarted (loadTables (storedImage s)).2) (powerOnBlocks straps above s)

/-! ## Warm restart (R169, R170) -/

/-- A row map entry's dynamic fields after a warm restart, before outputs are recomputed (R41). They are those of every entry; for one that is no LUMINAIRE R24 would keep emission fade, health and verify counts (log entry 37). -/
def Lum.warm (l : Lum) : Lum :=
  { l with
    emissionFade := l.baseFade, sentValid := false, shadow := .unknown, urgent := false
    aligned := false, health := .good, mismatches := 0, misses := 0 }

/-- When the trunk has been idle since, after a warm restart: a RESTART answer that was being sent has just ended (R19, R169). -/
def restartIdle (s : State) : Option Nat :=
  match s.trunkTx with
  | .answering _ _ => some s.portTime
  | _ => s.trunkIdle

/-- Every block at its warm-restart value (R170); the straps, the tables, B and base fade, the row power monitor and the store image are kept. Activity of another party on the row that is in progress is no state of the part's: it goes on, and still holds the transmitter in GAP (R12, R113; the model's choice, log entry 33). -/
def warmBlocks (s : State) : State :=
  recomputeAll
    { s with
      clock := 0
      subMs := 0
      lums := Vector.ofFn fun a : Addr => (s.lum a).warm
      pendingList := []
      zones := restartZones s.tables
      channels := Vector.replicate 8 .initial
      scan := .initial
      rowTx := if s.power.present then .gap else .powerless
      rowActivity := s.portTime
      starvation := 0
      lowerTurn := false
      emission := none
      forward := []
      lastTag := 15
      tagsInUse := []
      upstream := []
      noticesLost := false
      lostSinceStart := false
      trunkTx := .idle
      answer := none
      trunkIdle := restartIdle s
      counters := .zero
      verify := .initial
      store := ⟨s.store.image, none, .none⟩
      snapshot := none
      restart := .none }

/-- Warm restart: with row power PRESENT the luminaires are PENDING and a scan is triggered, in this order (log entry 30); as the last step RESTARTED is raised (R41, R46, R170), after any event of a scan that completes at its start (log entry 32). -/
def warmRestart (s : State) : State :=
  let s := warmBlocks s
  let s := if s.power.present then resumeScan (rowMapReturned s) else s
  raise (.restarted .warm) s

/-- The moment of a scheduled warm restart has come: its answer is over, or the answer's frame ends now (R169). -/
def restartDue (s : State) : Bool :=
  match s.restart, s.trunkTx with
  | .due, _ => true
  | .afterAnswer, .answering f t => decide (t + f.time ≤ s.portTime)
  | _, _ => false

/-! ## Row power (R20, 09 Row power) -/

/-- The supply has been below its threshold for 20 ms in PRESENT (R20). -/
def absentDue (s : State) : Bool :=
  s.power.present && !s.power.above && decide (Config.absentUs ≤ s.portTime - s.power.since)

/-- The supply has been above its threshold for 200 ms in ABSENT (R20). -/
def presentDue (s : State) : Bool :=
  !s.power.present && s.power.above && decide (Config.presentUs ≤ s.portTime - s.power.since)

/-- Row power becomes ABSENT at every block, then ROW POWER LOST is raised (R34, R56, R126, R140, R153; log entry 16). -/
def rowPowerLost (s : State) : State :=
  let s := { s with power := { s.power with present := false } }
  raise .rowPowerLost (verifyLost (flushForward (suspendScan (rowMapLost (rowPortLost s)))))

/-- Row power becomes PRESENT at every block, the row map before the scan controller (log entry 30), then ROW POWER RESTORED is raised (R21, R34, R56, R154; log entry 16). -/
def rowPowerReturned (s : State) : State :=
  let s := { s with power := { s.power with present := true } }
  raise .rowPowerRestored (resumeScan (rowMapReturned (enterGap s)))

end Sys2Proof.Machine
end

