-- ==== Sys2Proof/Machine/Power.lean ====
section
/-! DEFINITION. The meanings of the power and restart commands. -/

namespace Sys2Proof.Machine

/-- POWER_ON (R168). -/
def execPowerOn (_after : Nat) (straps : Fin 16) (above : Bool) (s : State) :
    Host.Outcome State Fault Refusal :=
  .next (powerOn straps above s)

/-- The supply crosses its threshold: the measurement starts afresh (R20). -/
def crossThreshold (above : Bool) (s : State) : State :=
  if s.power.above = above then s
  else { s with power := { s.power with above := above, since := s.portTime } }

/-- ROW_SENSE_CHANGE (R20). -/
def execRowSenseChange (after : Nat) (above : Bool) (s : State) : Host.Outcome State Fault Refusal :=
  .next (crossThreshold above (passTime after s))

/-- Row power becomes ABSENT when its 20 ms have run out (R20). -/
def losePower (s : State) : State := if absentDue s then rowPowerLost s else s

/-- ROW_POWER_ABSENT (R20, R34, R56, R140, R153). -/
def execRowPowerAbsent (after : Nat) (s : State) : Host.Outcome State Fault Refusal :=
  .next (losePower (passTime after s))

/-- Row power becomes PRESENT when its 200 ms have run out (R20). -/
def regainPower (s : State) : State := if presentDue s then rowPowerReturned s else s

/-- ROW_POWER_PRESENT (R20, R34, R56, R154). -/
def execRowPowerPresent (after : Nat) (s : State) : Host.Outcome State Fault Refusal :=
  .next (regainPower (passTime after s))

/-- A scheduled warm restart whose moment has come takes place (R169, R170). -/
def restartIfDue (s : State) : State := if restartDue s then warmRestart s else s

/-- WARM_RESTART (R169, R170). -/
def execWarmRestart (after : Nat) (s : State) : Host.Outcome State Fault Refusal :=
  .next (restartIfDue (passTime after s))

end Sys2Proof.Machine
end

