-- ==== Sys2Proof/Machine/RowPort.lean ====
section
/-! DEFINITION. The meanings of the row port's commands: the row gap, completions, window closes, strays. -/

namespace Sys2Proof.Machine

/-- The row gap has run out (R113). -/
def gapOver (s : State) : Bool :=
  s.rowTx == .gap && !s.rowForeign && decide (Config.rowGapUs ≤ s.portTime - s.rowActivity)

/-- READY is entered when the gap has run out, and the arbiter chooses (R113, R117). -/
def endGap (s : State) : State :=
  if gapOver s then arbitrate { s with rowTx := .ready } else s

/-- ROW_GAP_END (R113). -/
def execRowGapEnd (after : Nat) (s : State) : Host.Outcome State Fault Refusal :=
  .next (endGap (passTime after s))

/-- The frame of an owner on the row, if there is one. -/
def rowFrameOf (s : State) (o : RowOwner) : Option RowFrame :=
  match s.rowTx with
  | .onRow f => if f.owner = o then some f else none
  | _ => none

/-- A level frame that has ended completes (R125). -/
def completeLevel (s : State) : State :=
  match rowFrameOf s .level with
  | some f => if frameCompletes s f then finishLevel s else s
  | none => s

/-- LEVEL_FRAME_COMPLETE (R125, R32). -/
def execLevelFrameComplete (after : Nat) (s : State) : Host.Outcome State Fault Refusal :=
  .next (completeLevel (passTime after s))

/-- A forwarded frame that opens no window completes, and its entry leaves the queue (R137). -/
def completeForward (s : State) : State :=
  match rowFrameOf s .forward with
  | some f => if frameCompletes s f then enterGap (popForward s) else s
  | none => s

/-- FORWARD_FRAME_COMPLETE (R137). -/
def execForwardFrameComplete (after : Nat) (s : State) : Host.Outcome State Fault Refusal :=
  .next (completeForward (passTime after s))

/-- The window of an untagged entry closes: the reply is counted, the outcome goes no further (R137). -/
def closeUntagged (w : WindowReply) (s : State) : State :=
  match rowFrameOf s .forward, s.forward with
  | some f, e :: _ =>
    if windowCloses s f w = true ∧ e.tag = none then
      enterGap (popForward (countOutcome (windowOutcome f.frame w) s))
    else s
  | _, _ => s

/-- UNTAGGED_WINDOW_CLOSE (R137). -/
def execUntaggedWindowClose (after : Nat) (reply : WindowReply) (s : State) :
    Host.Outcome State Fault Refusal :=
  .next (closeUntagged reply (passTime after s))

/-- The window of a tagged entry closes: its DEFERRED REPLY is offered (R138). -/
def closeDeferred (w : WindowReply) (s : State) : State :=
  match rowFrameOf s .forward, s.forward with
  | some f, e :: _ =>
    if windowCloses s f w = true ∧ e.tag ≠ none then
      deferredOutcome e (windowOutcome f.frame w)
        (enterGap (popForward (countOutcome (windowOutcome f.frame w) s)))
    else s
  | _, _ => s

/-- DEFERRED_QUERY_OUTCOME (R138). -/
def execDeferredQueryOutcome (after : Nat) (reply : WindowReply) (s : State) :
    Host.Outcome State Fault Refusal :=
  .next (closeDeferred reply (passTime after s))

/-- The channel whose scan query is on the row, with its frame. -/
def scanFrame (s : State) : Option (ChannelId × RowFrame) :=
  match s.rowTx with
  | .onRow f =>
    match f.owner with
    | .scan c => some (c, f)
    | _ => none
  | _ => none

/-- The window of a scan query closes (R49). -/
def closeScan (w : WindowReply) (s : State) : State :=
  match scanFrame s with
  | some (c, f) =>
    if windowCloses s f w then
      scanOutcome c (channelOutcome (windowOutcome f.frame w))
        (enterGap (countOutcome (windowOutcome f.frame w) s))
    else s
  | none => s

/-- SCAN_QUERY_OUTCOME (R49, R57 to R61, R65). -/
def execScanQueryOutcome (after : Nat) (reply : WindowReply) (s : State) :
    Host.Outcome State Fault Refusal :=
  .next (closeScan reply (passTime after s))

/-- The window of a verify query closes (R147). -/
def closeVerify (w : WindowReply) (s : State) : State :=
  match rowFrameOf s .verify with
  | some f =>
    if windowCloses s f w then
      verifyOutcome (windowOutcome f.frame w)
        (enterGap (countOutcome (windowOutcome f.frame w) s))
    else s
  | none => s

/-- VERIFY_OUTCOME (R147 to R149). -/
def execVerifyOutcome (after : Nat) (reply : WindowReply) (s : State) :
    Host.Outcome State Fault Refusal :=
  .next (closeVerify reply (passTime after s))

/-- The window of an alignment request closes (R152). -/
def closeAlignment (w : WindowReply) (s : State) : State :=
  match rowFrameOf s .alignment with
  | some f =>
    if windowCloses s f w then
      alignOutcome (windowOutcome f.frame w)
        (enterGap (countOutcome (windowOutcome f.frame w) s))
    else s
  | none => s

/-- ALIGNMENT_OUTCOME (R37, R152). -/
def execAlignmentOutcome (after : Nat) (reply : WindowReply) (s : State) :
    Host.Outcome State Fault Refusal :=
  .next (closeAlignment reply (passTime after s))

/-- Line activity that is not the part's own begins while no window is open: READY is left, and the transmitter holds in GAP (R113). Activity that begins in ABSENT is neither delivered nor counted (R21), and holds GAP if it lasts past the change to PRESENT (log entry 33). -/
def strayBegins (s : State) : State :=
  match s.transmitter with
  | .powerless => { s with rowForeign := true }
  | .awaitingReply => s
  | .sending => { s with rowForeign := true }
  | .gap => { s with rowForeign := true }
  | .ready => { s with rowForeign := true, rowTx := .gap }

/-- A frame that began on the row while no window was open has ended: it is counted, and the gap runs from its end (R11, R113). -/
def countStray (s : State) : State :=
  countRowFraming { s with rowForeign := false, rowActivity := s.portTime }

/-- Line activity that is not the part's own has ended (R11, R113): in ABSENT it is not counted (R21); in PRESENT it is, wherever it began (log entry 33); and a frame that began in an open window is no stray. -/
def strayEnds (s : State) : State :=
  match s.transmitter with
  | .powerless => { s with rowForeign := false }
  | .awaitingReply => if s.rowForeign then countStray s else s
  | .sending => countStray s
  | .gap => countStray s
  | .ready => countStray { s with rowTx := .gap }

/-- ROW_STRAY_FRAME (R11, R113). -/
def execRowStrayFrame (after : Nat) (ended : Bool) (s : State) : Host.Outcome State Fault Refusal :=
  .next (if ended then strayEnds (passTime after s) else strayBegins (passTime after s))

end Sys2Proof.Machine
end

