-- ==== Sys2Proof/Machine/Timers.lean ====
section
/-! DEFINITION. The meanings of the commands that time brings: ticks, deadlines, intervals, saturation. -/

namespace Sys2Proof.Machine

/-- PERIODIC_TICK (R52). -/
def execPeriodicTick (after : Nat) (s : State) : Host.Outcome State Fault Refusal :=
  .next (arbitrate (tickIfDue (passTime after s)))

/-- The continuous restart is a trigger when it is due (R53). -/
def restartContinuous (s : State) : State := if continuousDue s then trigger false s else s

/-- CONTINUOUS_RESTART (R53). -/
def execContinuousRestart (after : Nat) (s : State) : Host.Outcome State Fault Refusal :=
  .next (arbitrate (restartContinuous (passTime after s)))

/-- DEFERRAL_DEADLINE (R139). -/
def execDeferralDeadline (after : Nat) (tag : Tag) (s : State) : Host.Outcome State Fault Refusal :=
  .next (arbitrate (expire tag (passTime after s)))

/-- VERIFY_INTERVAL_EXPIRY: the class F candidate stands from now, if its conditions hold (R145, R117). -/
def execVerifyIntervalExpiry (after : Nat) (s : State) : Host.Outcome State Fault Refusal :=
  .next (arbitrate (passTime after s))

/-- ALIGNMENT_HOLD_EXPIRY: the class E candidate stands from now, if its conditions hold (R151, R117). -/
def execAlignmentHoldExpiry (after : Nat) (s : State) : Host.Outcome State Fault Refusal :=
  .next (arbitrate (passTime after s))

/-- A channel's recorded time saturates (R1). -/
def ChannelStatus.saturate (now : Clock) (c : ChannelStatus) : ChannelStatus :=
  { c with lastGood := c.lastGood.saturate now }

/-- A zone's recorded times saturate (R1). -/
def ZoneStatus.saturate (now : Clock) (z : ZoneStatus) : ZoneStatus :=
  { z with
    lastPass := z.lastPass.saturate now
    zeroSince := z.zeroSince.map (Stamp.saturate now) }

/-- Every recorded time that 2^31 ms have passed since is marked saturated (R1). -/
def saturateStamps (s : State) : State :=
  { s with
    channels := Vector.ofFn fun c : ChannelId => (s.channel c).saturate s.clock
    zones := Vector.ofFn fun z : ZoneId => (s.zone z).saturate s.clock
    scan := { s.scan with start := s.scan.start.saturate s.clock }
    verify := { s.verify with
      last := s.verify.last.saturate s.clock
      alignFail := s.verify.alignFail.map (Stamp.saturate s.clock) }
    store := { s.store with
      writing := s.store.writing.map fun w => { w with start := w.start.saturate s.clock } } }

/-- INTERVAL_SATURATION (R1). -/
def execIntervalSaturation (after : Nat) (s : State) : Host.Outcome State Fault Refusal :=
  .next (saturateStamps (passTime after s))

end Sys2Proof.Machine
end

