-- ==== Sys2Proof/Machine/TrunkPort.lean ====
section
/-! DEFINITION. The meanings of the trunk port's commands (R5 to R8, R10, R13, R14, R17). -/

namespace Sys2Proof.Machine

/-- What a discarded trunk frame counts (R5, R6, R22). -/
def countVerdict : TrunkVerdict → State → State
  | .framing, s => countTrunkFraming s
  | .check, s => countTrunkCheck s
  | .ignored, s => s
  | .discarded, s => s
  | .delivered _, s => s

/-- TRUNK_FRAME_ERROR: the frame is discarded and counted once, at its end (R5, R6). -/
def execTrunkFrameError (after : Nat) (rx : Reception) (s : State) : Host.Outcome State Fault Refusal :=
  .next (countVerdict (trunkVerdict s.segmentByte rx) (trunkFrameEnd after s))

/-- TRUNK_FRAME_IGNORED: the end of the frame only marks the trunk idle (R7). -/
def execTrunkFrameIgnored (after : Nat) (_rx : Reception) (s : State) :
    Host.Outcome State Fault Refusal :=
  .next (trunkFrameEnd after s)

/-- TRUNK_FRAME_DISCARDED: neither count nor answer (R6, R8). -/
def execTrunkFrameDiscarded (after : Nat) (_rx : Reception) (s : State) :
    Host.Outcome State Fault Refusal :=
  .next (trunkFrameEnd after s)

/-- TRUNK_LINE_ACTIVITY: the wait ends, and an answer not yet started is abandoned (R10, R13). -/
def execTrunkLineActivity (after : Nat) (s : State) : Host.Outcome State Fault Refusal :=
  .next (lineActivity (passTime after s))

/-- The answer's 4 ms have passed on an idle line (R10). -/
def answerDue (s : State) (a : Answer) : Bool :=
  decide (Config.answerDelayUs ≤ s.portTime - a.requestEnd) && s.trunkIdle.isSome

/-- The immediate answer starts, if it is due (R10). -/
def startAnswer (s : State) : State :=
  match s.answer with
  | some a =>
    if answerDue s a then
      { s with answer := none, trunkTx := .answering a.frame s.portTime, trunkIdle := none }
    else s
  | none => s

/-- TRUNK_ANSWER_START (R10). -/
def execTrunkAnswerStart (after : Nat) (s : State) : Host.Outcome State Fault Refusal :=
  .next (startAnswer (passTime after s))

/-- The head of the upstream queue starts, if it qualifies (R13, R17). -/
def startQualified (s : State) : State := if headQualifies s then startHead s else s

/-- TRUNK_TRANSMIT_START (R13, R17, R18). -/
def execTrunkTransmitStart (after : Nat) (s : State) : Host.Outcome State Fault Refusal :=
  .next (startQualified (passTime after s))

/-- What is being transmitted is lost to arbitration: an answer is abandoned, a queued frame stays queued (R10, R14, R17). -/
def arbitrationLost (lineIdle : Bool) (s : State) : State :=
  match s.trunkTx with
  | .idle => s
  | .answering _ _ => answerOver (loseArbitration lineIdle s)
  | .sending _ _ _ => loseArbitration lineIdle s

/-- ARBITRATION_LOSS (R10, R14). -/
def execArbitrationLoss (after : Nat) (lineIdle : Bool) (s : State) : Host.Outcome State Fault Refusal :=
  .next (arbitrationLost lineIdle (passTime after s))

/-- The frame on the trunk has ended without loss: an answer is over (log entry 9), a queued frame is settled (R17, R18). -/
def frameSent (s : State) : State :=
  match s.trunkTx with
  | .idle => s
  | .answering f t =>
    if t + f.time ≤ s.portTime then
      answerOver { s with trunkTx := .idle, trunkIdle := some s.portTime }
    else s
  | .sending f t lostFlag => if t + f.time ≤ s.portTime then finishSending lostFlag s else s

/-- TRUNK_FRAME_SENT (R17, R18, R135). -/
def execTrunkFrameSent (after : Nat) (s : State) : Host.Outcome State Fault Refusal :=
  .next (frameSent (passTime after s))

end Sys2Proof.Machine
end

