-- ==== Sys2Proof/Machine/Dispatch.lean ====
section
/-! DEFINITION. One arm per command: each calls its meaning. -/

namespace Sys2Proof.Machine

def exec (i : Instr) (s : State) : Host.Outcome State Fault Refusal :=
  match i with
  | .powerOn after straps above => Sys2Proof.Machine.execPowerOn after straps above s
  | .rowSenseChange after above => Sys2Proof.Machine.execRowSenseChange after above s
  | .rowPowerAbsent after => Sys2Proof.Machine.execRowPowerAbsent after s
  | .rowPowerPresent after => Sys2Proof.Machine.execRowPowerPresent after s
  | .trunkFrameError after rx => Sys2Proof.Machine.execTrunkFrameError after rx s
  | .trunkFrameIgnored after rx => Sys2Proof.Machine.execTrunkFrameIgnored after rx s
  | .trunkFrameDiscarded after rx => Sys2Proof.Machine.execTrunkFrameDiscarded after rx s
  | .trunkLineActivity after => Sys2Proof.Machine.execTrunkLineActivity after s
  | .trunkAnswerStart after => Sys2Proof.Machine.execTrunkAnswerStart after s
  | .trunkTransmitStart after => Sys2Proof.Machine.execTrunkTransmitStart after s
  | .arbitrationLoss after lineIdle => Sys2Proof.Machine.execArbitrationLoss after lineIdle s
  | .trunkFrameSent after => Sys2Proof.Machine.execTrunkFrameSent after s
  | .setLevelUnit after dest unit level fade extra => Sys2Proof.Machine.execSetLevelUnit after dest unit level fade extra s
  | .setLevelGroup after dest group level fade extra => Sys2Proof.Machine.execSetLevelGroup after dest group level fade extra s
  | .setLevelBroadcast after dest level fade extra => Sys2Proof.Machine.execSetLevelBroadcast after dest level fade extra s
  | .deviceConfigSetGroups after dest target mask extra => Sys2Proof.Machine.execDeviceConfigSetGroups after dest target mask extra s
  | .deviceConfig after dest target subKind extra => Sys2Proof.Machine.execDeviceConfig after dest target subKind extra s
  | .queryTargetLevel after unit extra => Sys2Proof.Machine.execQueryTargetLevel after unit extra s
  | .queryLightReading after unit extra => Sys2Proof.Machine.execQueryLightReading after unit extra s
  | .queryOtherItem after unit item extra => Sys2Proof.Machine.execQueryOtherItem after unit item extra s
  | .readEntryPart0 after req table index part => Sys2Proof.Machine.execReadEntryPart0 after req table index part s
  | .readEntryPart1 after req table index => Sys2Proof.Machine.execReadEntryPart1 after req table index s
  | .writeRowMapEntry after req index entry => Sys2Proof.Machine.execWriteRowMapEntry after req index entry s
  | .writeZoneConfig after req index entry => Sys2Proof.Machine.execWriteZoneConfig after req index entry s
  | .writeChannelConfig after req index entry => Sys2Proof.Machine.execWriteChannelConfig after req index entry s
  | .writeTrunkGroupMap after req index entry => Sys2Proof.Machine.execWriteTrunkGroupMap after req index entry s
  | .writeEventRoute after req index entry => Sys2Proof.Machine.execWriteEventRoute after req index entry s
  | .writeSettings after req index entry => Sys2Proof.Machine.execWriteSettings after req index entry s
  | .writeEntryReadOnly after req table index => Sys2Proof.Machine.execWriteEntryReadOnly after req table index s
  | .loadCoefficients after req zone channelByte values => Sys2Proof.Machine.execLoadCoefficients after req zone channelByte values s
  | .setZoneModeHold after req zone mode => Sys2Proof.Machine.execSetZoneModeHold after req zone mode s
  | .setZoneModeManual after req zone mode => Sys2Proof.Machine.execSetZoneModeManual after req zone mode s
  | .setZoneModeTrack after req zone mode => Sys2Proof.Machine.execSetZoneModeTrack after req zone mode s
  | .triggerScan after req => Sys2Proof.Machine.execTriggerScan after req s
  | .commit after req => Sys2Proof.Machine.execCommit after req s
  | .restart after req => Sys2Proof.Machine.execRestart after req s
  | .readStatusPart0 after req part => Sys2Proof.Machine.execReadStatusPart0 after req part s
  | .readStatusPart1 after req => Sys2Proof.Machine.execReadStatusPart1 after req s
  | .unknownOperation after req op => Sys2Proof.Machine.execUnknownOperation after req op s
  | .warmRestart after => Sys2Proof.Machine.execWarmRestart after s
  | .storeWriteEnd after found => Sys2Proof.Machine.execStoreWriteEnd after found s
  | .rowGapEnd after => Sys2Proof.Machine.execRowGapEnd after s
  | .levelFrameComplete after => Sys2Proof.Machine.execLevelFrameComplete after s
  | .forwardFrameComplete after => Sys2Proof.Machine.execForwardFrameComplete after s
  | .untaggedWindowClose after reply => Sys2Proof.Machine.execUntaggedWindowClose after reply s
  | .rowStrayFrame after ended => Sys2Proof.Machine.execRowStrayFrame after ended s
  | .scanQueryOutcome after reply => Sys2Proof.Machine.execScanQueryOutcome after reply s
  | .periodicTick after => Sys2Proof.Machine.execPeriodicTick after s
  | .continuousRestart after => Sys2Proof.Machine.execContinuousRestart after s
  | .deferredQueryOutcome after reply => Sys2Proof.Machine.execDeferredQueryOutcome after reply s
  | .deferralDeadline after tag => Sys2Proof.Machine.execDeferralDeadline after tag s
  | .verifyIntervalExpiry after => Sys2Proof.Machine.execVerifyIntervalExpiry after s
  | .verifyOutcome after reply => Sys2Proof.Machine.execVerifyOutcome after reply s
  | .alignmentOutcome after reply => Sys2Proof.Machine.execAlignmentOutcome after reply s
  | .alignmentHoldExpiry after => Sys2Proof.Machine.execAlignmentHoldExpiry after s
  | .intervalSaturation after => Sys2Proof.Machine.execIntervalSaturation after s

end Sys2Proof.Machine
end

