-- ==== Sys2Proof/Machine/Receive.lean ====
section
/-! DEFINITION. Which command a frame received on the trunk is: every reception is exactly one row of opcode_table.json (R5 to R8, R97, R130, R155, R175, R176). -/

namespace Sys2Proof.Machine

/-- The segment byte of an accepted frame (R7). -/
def destOf (f : Frame) : Dest := if f.segment = 255 then .all else .own

/-- The 16-bit value at a place of a payload, as a word (R174). -/
def wordAt (p : List Byte) (i : Nat) : BitVec 16 := BitVec.ofNat 16 (payload16 p i)

/-- `n` bytes from place `i` of a payload as one value, the first byte most significant (R174). -/
def valueAt (p : List Byte) (i n : Nat) : Nat := bytesValue ((p.drop i).take n)

/-- The SET LEVEL rows (R97). -/
def setLevelCommand (after : Nat) (rx : Reception) (f : Frame) : Instr :=
  let p := f.payload
  match targetOf f.unit.toNat with
  | some (.unit a) => .setLevelUnit after (destOf f) a (wordAt p 0) (p.getD 2 0) (p.drop 3)
  | some (.group g) => .setLevelGroup after (destOf f) g (wordAt p 0) (p.getD 2 0) (p.drop 3)
  | some .all => .setLevelBroadcast after (destOf f) (wordAt p 0) (p.getD 2 0) (p.drop 3)
  | none => .trunkFrameDiscarded after rx

/-- The DEVICE CONFIG rows (R97). -/
def deviceConfigCommand (after : Nat) (rx : Reception) (f : Frame) : Instr :=
  let p := f.payload
  match targetOf f.unit.toNat with
  | some t =>
    if p.head? = some 1 then .deviceConfigSetGroups after (destOf f) t (wordAt p 1) (p.drop 3)
    else .deviceConfig after (destOf f) t (p.getD 0 0) (p.drop 1)
  | none => .trunkFrameDiscarded after rx

/-- The QUERY rows (R130). -/
def queryCommand (after : Nat) (rx : Reception) (f : Frame) : Instr :=
  let p := f.payload
  match targetOf f.unit.toNat with
  | some (.unit a) =>
    if p.getD 0 0 = 1 then .queryTargetLevel after a (p.drop 1)
    else if p.getD 0 0 = 8 then .queryLightReading after a (p.drop 1)
    else .queryOtherItem after a (p.getD 0 0) (p.drop 1)
  | _ => .trunkFrameDiscarded after rx

/-- The WRITE ENTRY rows, by table (R157). -/
def writeCommand (after : Nat) (req : Request) (p : List Byte) : Instr :=
  let index := p.getD 3 0
  match (p.getD 2 0).toNat with
  | 1 => .writeRowMapEntry after req index (BitVec.ofNat 24 (valueAt p 4 3))
  | 2 => .writeZoneConfig after req index (BitVec.ofNat 64 (valueAt p 4 8))
  | 3 => .writeChannelConfig after req index (BitVec.ofNat 24 (valueAt p 4 3))
  | 5 => .writeTrunkGroupMap after req index (BitVec.ofNat 64 (valueAt p 4 8))
  | 6 => .writeEventRoute after req index (BitVec.ofNat 16 (valueAt p 4 2))
  | 7 => .writeSettings after req index (BitVec.ofNat 64 (valueAt p 4 8))
  | _ => .writeEntryReadOnly after req (p.getD 2 0) index

/-- The SET ZONE MODE rows, by mode; a code that names no mode goes with TRACK (log entry 15). -/
def zoneModeCommand (after : Nat) (req : Request) (p : List Byte) : Instr :=
  match (p.getD 3 0).toNat with
  | 2 => .setZoneModeHold after req (p.getD 2 0) (p.getD 3 0)
  | 3 => .setZoneModeManual after req (p.getD 2 0) (p.getD 3 0)
  | _ => .setZoneModeTrack after req (p.getD 2 0) (p.getD 3 0)

/-- The MANAGE rows, by operation code (10, Operations and responses). -/
def manageCommand (after : Nat) (f : Frame) : Instr :=
  let p := f.payload
  let req : Request := ⟨destOf f, p.getD 1 0⟩
  match (p.getD 0 0).toNat with
  | 1 =>
    if p.getD 4 0 = 1 then .readEntryPart1 after req (p.getD 2 0) (p.getD 3 0)
    else .readEntryPart0 after req (p.getD 2 0) (p.getD 3 0) (p.getD 4 0)
  | 2 => writeCommand after req p
  | 3 =>
    .loadCoefficients after req (p.getD 2 0) (p.getD 3 0)
      ((List.range ((p.getD 3 0).toNat / 16 % 4 + 1)).map fun k => wordAt p (4 + 2 * k))
  | 4 => zoneModeCommand after req p
  | 5 => .triggerScan after req
  | 6 => .commit after req
  | 7 => .restart after req
  | 8 =>
    if p.getD 2 0 = 1 then .readStatusPart1 after req
    else .readStatusPart0 after req (p.getD 2 0)
  | _ => .unknownOperation after req (p.getD 0 0)

/-- The command of a delivered frame (R8). -/
def deliveredCommand (after : Nat) (rx : Reception) (f : Frame) : Instr :=
  match f.kind with
  | .setLevel => setLevelCommand after rx f
  | .query => queryCommand after rx f
  | .deviceConfig => deviceConfigCommand after rx f
  | .manage => manageCommand after f
  | .reply => .trunkFrameError after rx
  | .response => .trunkFrameError after rx
  | .deferredReply => .trunkFrameError after rx
  | .notice => .trunkFrameError after rx

/-- The command that a frame received on the trunk of segment `own` is (R5 to R8). -/
def trunkCommand (own : Byte) (after : Nat) (rx : Reception) : Instr :=
  match trunkVerdict own rx with
  | .ignored => .trunkFrameIgnored after rx
  | .framing => .trunkFrameError after rx
  | .check => .trunkFrameError after rx
  | .discarded => .trunkFrameDiscarded after rx
  | .delivered f => deliveredCommand after rx f

end Sys2Proof.Machine
end

