-- ==== Sys2Proof/Safety.lean ====
section
/-! DEFINITION. What holds of the part in every run, in the terms the claims use: the row map's rule, the level frame in flight, the capacities, the ranges, the modes that belong together, the order of the upstream queue, the owner of the row and the tags in use. -/

namespace Sys2Proof.Machine

/-- What the shadow state of one entry means (R24, R28 to R35): SYNCED has a valid S equal to O, PENDING no valid S equal to O, IN FLIGHT a valid S, and an entry that is no LUMINAIRE is UNKNOWN with S invalid and urgent no. -/
def State.EntryOk (s : State) (a : Addr) : Prop :=
  ((s.lum a).shadow = .synced → (s.lum a).sentValid = true ∧ (s.lum a).sent = (s.lum a).output) ∧
  ((s.lum a).shadow = .pending → (s.lum a).sentValid = true → (s.lum a).sent ≠ (s.lum a).output) ∧
  ((s.lum a).shadow = .inFlight → (s.lum a).sentValid = true) ∧
  (s.isLum a = false →
    (s.lum a).shadow = .unknown ∧ (s.lum a).sentValid = false ∧ (s.lum a).urgent = false)

/-- The row map's invariant (R24, R35): the pending list holds an address exactly when that entry is PENDING, never twice, and every entry is as its shadow state says. -/
def State.RowMapOk (s : State) : Prop :=
  s.pendingList.Nodup ∧
  (∀ a, a ∈ s.pendingList ↔ (s.lum a).shadow = .pending) ∧
  ∀ a, s.EntryOk a

/-- What UNKNOWN and IN FLIGHT mean beside the level frame on the row: in UNKNOWN S is invalid (R34, R38, R39, R41); an IN FLIGHT entry is covered by the emission record, and its S is the record's level (R31, R124); the record covers no entry twice, and the level frame on the row carries its level (R122, R123). -/
def State.FlightOk (s : State) : Prop :=
  (∀ a, (s.lum a).shadow = .unknown → (s.lum a).sentValid = false) ∧
  (∀ a, (s.lum a).shadow = .inFlight →
    ∃ m, s.emission = some m ∧ a ∈ m.covered ∧ (s.lum a).sent = m.level) ∧
  ∀ m, s.emission = some m →
    m.covered.Nodup ∧
    ∀ f, s.rowTx = .onRow f → f.owner = .level →
      f.frame.kind = .setLevel ∧ f.frame.payload.take 2 = bytes16 m.level

/-- The counters are 8 bits each (R22). -/
def Counters.Ok (c : Counters) : Prop :=
  c.trunkFraming ≤ 255 ∧ c.trunkCheck ≤ 255 ∧ c.arbitration ≤ 255 ∧ c.rowFraming ≤ 255 ∧
  c.rowCheck ≤ 255 ∧ c.noisy ≤ 255 ∧ c.forwardDrops ≤ 255

/-- The capacities: forward queue 4 (R136), upstream queue 8 frames and 4 notices (R15), 8 tags in use and none twice (R135), starvation count 6 (R120), counters 255 (R22). -/
def State.CapacitiesOk (s : State) : Prop :=
  s.forward.length ≤ 4 ∧ s.upstream.length ≤ 8 ∧ noticeCount s.upstream ≤ 4 ∧
  s.tagsInUse.Nodup ∧ s.tagsInUse.length ≤ 8 ∧ s.starvation ≤ 6 ∧ s.counters.Ok

/-- The ranges of an entry's levels and counts (02, Entries). -/
def Lum.Ok (l : Lum) : Prop :=
  l.base ≤ 1000 ∧ l.output ≤ 1000 ∧ l.sent ≤ 1000 ∧ l.mismatches ≤ 3 ∧ l.misses ≤ 3

/-- The ranges of a zone's status (R70, R73). -/
def ZoneStatus.Ok (z : ZoneStatus) : Prop := z.ratio ≤ 1000 ∧ z.estimate ≤ 20000

/-- The ranges of a channel's status (R43, R60). -/
def ChannelStatus.Ok (c : ChannelStatus) : Prop :=
  c.reading ≤ 20000 ∧ c.missCount ≤ 15 ∧ c.recoveryCount ≤ 15

/-- Every table field, level, ratio, estimate, reading and count lies in its range (R23, R43, R62, R63, R70, R73). -/
def State.RangesOk (s : State) : Prop :=
  s.tables.inRange = true ∧ (∀ a, (s.lum a).Ok) ∧ (∀ z, (s.zone z).Ok) ∧ (∀ c, (s.channel c).Ok) ∧
  (∀ m, s.emission = some m → m.level ≤ 1000)

/-- The modes that belong together: a zone is bound exactly while it is in use (R82); the scan controller is SUSPENDED and the row transmitter POWERLESS exactly while row power is ABSENT (R46, R113). -/
def State.ModesOk (s : State) : Prop :=
  (∀ z, (s.zone z).mode = .unbound ↔ (s.zoneConfig z).inUse = false) ∧
  (s.scan.state = .suspended ↔ s.power.present = false) ∧
  (s.rowTx = .powerless ↔ s.power.present = false)

/-- The order of the upstream queue: every notice has priority 1 to 7 and so ranks below a DEFERRED REPLY; the entries stand by rank; and no two queued notices share kind and subject (R15, R171). -/
def State.UpstreamOk (s : State) : Prop :=
  (∀ e ∈ s.upstream, ∀ n, e.item = .notice n → 1 ≤ n.priority ∧ n.priority ≤ 7) ∧
  s.upstream.Pairwise (fun e f => f.rank ≤ e.rank) ∧
  s.upstream.Pairwise (fun e f =>
    match e.item, f.item with
    | .notice m, .notice n => m.event.sameSubject n.event = false
    | .notice _, .deferred _ => True
    | .deferred _, .notice _ => True
    | .deferred _, .deferred _ => True)

/-- The owner of the frame on the row, if one is there (R114). -/
def State.owner (s : State) : Option RowOwner :=
  match s.rowTx with
  | .onRow f => some f.owner
  | .powerless => none
  | .gap => none
  | .ready => none

/-- The head of the forward queue is ON ROW. -/
def State.headOnRow (s : State) : Bool :=
  match s.forward with
  | e :: _ => e.onRow
  | [] => false

/-- Every block's record of a frame on the row is the record of the frame that is there (R114, R124, R136, R48, R146, R37), the forwarded frame on the row is the frame of the forward queue's head, and no entry behind the head is ON ROW. -/
def State.OwnersOk (s : State) : Prop :=
  (s.headOnRow = true ↔ s.owner = some .forward) ∧
  (∀ f e q, s.rowTx = .onRow f → f.owner = .forward → s.forward = e :: q → e.frame = f.frame) ∧
  (∀ e ∈ s.forward.tail, e.onRow = false) ∧
  (∀ c, s.owner = some (.scan c) ↔ s.scan.onRow = true ∧ s.scan.lastQueried = some c) ∧
  (s.scan.onRow = true → s.scan.lastQueried.isSome = true ∧ (s.scan.state = .scanning ∨ s.scan.state = .stopping)) ∧
  (s.scan.state = .stopping → s.scan.onRow = true) ∧
  (s.emission.isSome = true ↔ s.owner = some .level) ∧
  (s.verify.record.isSome = true ↔ s.owner = some .verify) ∧
  (s.verify.alignRecord.isSome = true ↔ s.owner = some .alignment)

/-- The tags of the entries in the forward queue. -/
def State.forwardTags (s : State) : List Tag := s.forward.filterMap FwdEntry.tag

/-- The tags of the DEFERRED REPLY frames in the upstream queue. -/
def State.upstreamTags (s : State) : List Tag :=
  s.upstream.filterMap fun e =>
    match e.item with
    | .deferred d => some d.tag
    | .notice _ => none

/-- A tag is in use exactly while its entry stands in the forward queue or its DEFERRED REPLY in the upstream queue, and each stands there once (R135, R142); a tagged entry's frame is one that opens a window (R134, R138). -/
def State.TagsOk (s : State) : Prop :=
  (∀ e ∈ s.forward, e.tag ≠ none → e.frame.opensWindow = true) ∧
  (s.forwardTags ++ s.upstreamTags).Nodup ∧
  ∀ t, t ∈ s.tagsInUse ↔ t ∈ s.forwardTags ++ s.upstreamTags

/-! ## What a command did, in the terms the claims use -/

/-- What an absorbed SET LEVEL leaves of one luminaire `l`, whose new output is `o` (R99): base level and base fade are the taken ones, and the shadow follows R28 to R30. -/
def Lum.afterAbsorb (l : Lum) (level : Nat) (fade : Fade) (o : Nat) : Lum :=
  match l.shadow with
  | .synced =>
    if o = l.sent then { l with base := level, baseFade := fade, output := o }
    else { l with
      base := level, baseFade := fade, output := o
      shadow := .pending, urgent := true, emissionFade := fade }
  | .pending =>
    if l.sentValid = true ∧ o = l.sent then
      { l with base := level, baseFade := fade, output := o, shadow := .synced, urgent := false }
    else { l with base := level, baseFade := fade, output := o, urgent := true, emissionFade := fade }
  | .inFlight => { l with base := level, baseFade := fade, output := o, urgent := true, emissionFade := fade }
  | .unknown => { l with base := level, baseFade := fade, output := o }

/-- The absorbed update withdraws the entry (R29). -/
def Lum.withdrawnBy (l : Lum) (o : Nat) : Bool := l.shadow == .pending && l.sentValid && o == l.sent

/-- The absorbed update makes the entry join the pending list (R28). -/
def Lum.joinedBy (l : Lum) (o : Nat) : Bool := l.shadow == .synced && o != l.sent

/-- `u` is `v` after one SET LEVEL has been absorbed into the luminaires `as`, and nothing else (R99 to R101): every output is found with the zone state of `v`, withdrawn entries leave the pending list, and those that join stand at its tail in the order of `as`. -/
def State.AbsorbedInto (as : List Addr) (level : Nat) (fade : Fade) (v u : State) : Prop :=
  u = { v with lums := u.lums, pendingList := u.pendingList } ∧
  (∀ a, a ∉ as → u.lum a = v.lum a) ∧
  (∀ a, a ∈ as → u.lum a = (v.lum a).afterAbsorb level fade (v.outputFor a level)) ∧
  u.pendingList =
    (v.pendingList.filter fun a => !(as.contains a && (v.lum a).withdrawnBy (v.outputFor a level))) ++
      as.filter fun a => (v.lum a).joinedBy (v.outputFor a level)

/-- `v` after the entries of a list were handed their outputs by the output rule as non-urgent updates, one after the other, with the trim fade of their zone, or their base fade without a zone (R27, R76, R80). -/
def State.handOutputs (as : List Addr) (v : State) : State :=
  as.foldl (fun u a => outputUpdate a (u.outputFor a (u.lum a).base) false
    (match (u.row a).zone with
     | some z => (u.zoneConfig z).trimFade
     | none => (u.lum a).baseFade) u) v

/-- `u` is `v` after an untagged frame was offered for forwarding (R137): appended as a WAITING entry without tag and deadline, or, with 4 entries queued, dropped and counted. -/
def State.ForwardedAs (f : Frame) (v u : State) : Prop :=
  if v.forward.length < 4 then
    u = { v with forward := v.forward ++ [⟨f, none, false, f.unit, none⟩] }
  else
    u = { v with counters := { v.counters with forwardDrops := min (v.counters.forwardDrops + 1) 255 } }

/-- `u` is `v` after a request was deferred (R134, R135): with 4 entries queued or 8 tags in use it is answered BUSY; otherwise the first tag after the last one, modulo 16, that is not in use joins the tags in use, the frame joins the forward queue with a deadline 500 ms away, and the answer is DEFERRED with the tag. -/
def State.DeferredAs (f : Frame) (v u : State) : Prop :=
  if v.forward.length < 4 ∧ v.tagsInUse.length < 8 then
    ∃ (t : Tag) (k : Nat), k < 9 ∧ t.val = (v.lastTag.val + 1 + k) % 16 ∧ t ∉ v.tagsInUse ∧
      (∀ j, j < k → Fin.ofNat 16 (v.lastTag.val + 1 + j) ∈ v.tagsInUse) ∧
      u = { v with
        forward := v.forward ++ [⟨f, some t, false, f.unit, some (v.clock + 500)⟩]
        lastTag := t
        tagsInUse := v.tagsInUse ++ [t]
        answer := some ⟨⟨.response, v.segmentByte, f.unit, [2, BitVec.ofNat 8 t.val]⟩, v.portTime⟩ }
  else u = { v with answer := some ⟨⟨.response, v.segmentByte, f.unit, [3]⟩, v.portTime⟩ }

/-- A state a safe run may be in. -/
structure State.Safe (s : State) : Prop where
  rowMap : s.RowMapOk
  flight : s.FlightOk
  capacities : s.CapacitiesOk
  ranges : s.RangesOk
  modes : s.ModesOk
  upstream : s.UpstreamOk
  owners : s.OwnersOk
  tags : s.TagsOk

end Sys2Proof.Machine
end

