-- ==== Sys2Proof/Certificates/Slice0/Obligations.lean ====
section
/-! DEFINITION. The statements for the provers: what a step is, what the invariants are, what is received and sent, and what each command does. Where a statement rests on a choice of the model, its docstring names the log entry. -/

open Sys2Proof Sys2Proof.Machine

/-! ## The step, reset and power-on -/

/-- A step runs the command at the front of the queue on the state with the queue's rest. -/
def Obligations.StepRunsTheFrontCommand : Prop :=
  ∀ (c : Instr) (rest : List Instr) (s : State), s.pending = c :: rest →
    step s = exec c { s with pending := rest }

/-- With no command waiting, a step lets one millisecond pass and changes nothing else (the model's choice, log entry 1). An interval saturates at 2^31 ms (R1): it is the difference of the readings modulo 2^32 below that, the saturation event marks every recorded time that has reached it, a marked time gives 2^31 ms ever after, and marking leaves the recorded time itself as it is; that it is remembered by a mark is the model's choice, log entry 21. The time `n` microseconds that a command lets pass first, as every other statement takes it (R1; that a command carries it is log entry 1): the segment clock counts the whole milliseconds modulo 2^32, the remainder is kept, the ports' time counts the microseconds, and nothing else changes; two times in a row pass like their sum. -/
def Obligations.TimePassesOnItsOwn : Prop :=
  (∀ s : State, s.pending = [] →
     ∃ t, step s = .next t ∧
       t = { s with clock := t.clock, subMs := t.subMs, portTime := s.portTime + 1000 } ∧
       (s.subMs < 1000 → t.clock = s.clock + 1 ∧ t.subMs = s.subMs)) ∧
  (∀ (n : Nat) (s : State),
     passTime n s = { s with
       clock := s.clock + BitVec.ofNat 32 ((s.subMs + n) / 1000)
       subMs := (s.subMs + n) % 1000
       portTime := s.portTime + n } ∧
     ∀ m : Nat, passTime m (passTime n s) = passTime (n + m) s) ∧
  ((∀ (x : Stamp) (now : Clock),
     x.interval now ≤ 2147483648 ∧
     (x.saturated = false → 2147483648 ≤ (now - x.time).toNat → x.interval now = 2147483648) ∧
     (x.saturated = true → x.interval now = 2147483648) ∧
     (x.saturate now).time = x.time ∧
     (x.saturated = false → (now - x.time).toNat < 2147483648 → x.interval now = (now - x.time).toNat) ∧
     (2147483648 ≤ x.interval now → ∀ later, (x.saturate now).interval later = 2147483648) ∧
     (x.interval now < 2147483648 → x.saturate now = x)) ∧
   ∀ (after : Nat) (s : State), ∃ t, exec (.intervalSaturation after) s = .next t ∧
     let v := passTime after s
     t = { v with
       channels := t.channels, zones := t.zones
       scan := { v.scan with start := v.scan.start.saturate v.clock }
       verify := { v.verify with
         last := v.verify.last.saturate v.clock
         alignFail := v.verify.alignFail.map fun x => x.saturate v.clock }
       store := { v.store with
         writing := v.store.writing.map fun w => { w with start := w.start.saturate v.clock } } } ∧
     (∀ c, t.channel c = { v.channel c with lastGood := (v.channel c).lastGood.saturate v.clock }) ∧
     ∀ z, t.zone z = { v.zone z with
       lastPass := (v.zone z).lastPass.saturate v.clock
       zeroSince := (v.zone z).zeroSince.map fun x => x.saturate v.clock })

/-- Every command completes in every state, and leaves the queue of waiting commands alone. That one out of its moment, or one that no frame can bring, completes too is the model's choice, log entries 2 and 26. -/
def Obligations.EveryCommandCompletes : Prop :=
  ∀ (c : Instr) (s : State), ∃ t, exec c s = .next t ∧ t.pending = s.pending

/-- The reset state is the state power-on makes of a part whose store holds nothing, with the straps at 0 and the row supply below its threshold (R168; these inputs are the model's choice, log entry 4). The reset state meets every invariant. -/
def Obligations.ResetIsTheSafePowerOnState : Prop :=
  (exec (.powerOn 0 0 false) State.reset = .next State.reset) ∧
  (State.reset.Safe)

/-- Power-on (R168): straps sampled, clock 0, tables from an image that passes its check and otherwise the defaults, every block at its power-on value, and RESTARTED raised last with time 0. -/
def Obligations.PowerOnStartsEveryBlock : Prop :=
  ∀ (after : Nat) (straps : Fin 16) (above : Bool) (s : State), ∃ t cause,
    exec (.powerOn after straps above) s = .next t ∧
    ((∃ i, s.store.writing = none ∧ s.store.image = some i ∧ i.passes = true ∧
        t.tables = i.tables ∧ cause = RestartCause.powerOn) ∨
      ((s.store.writing ≠ none ∨ ∀ i, s.store.image = some i → i.passes = false) ∧
        cause = RestartCause.defaults ∧
        (∀ a, t.row a = ⟨.absent, none, 10⟩) ∧
        (∀ z, t.zoneConfig z = ⟨false, 0, 400, 30, 15, false, 600, 5⟩) ∧
        (∀ c, t.channelConfig c = ⟨none, 0⟩) ∧ (∀ z c, t.coeff z c = 0) ∧
        (∀ g : GroupId, t.tables.groups[g.val] = 0) ∧
        t.tables.routes = #v[⟨7, false⟩, ⟨3, false⟩, ⟨2, true⟩, ⟨0, true⟩, ⟨6, false⟩, ⟨4, false⟩,
          ⟨4, false⟩, ⟨2, false⟩, ⟨7, false⟩, ⟨5, false⟩, ⟨2, false⟩] ∧
        t.settings = ⟨0, 7, .periodic, 2000, none, 250, 3, 3, 1000⟩)) ∧
    t.segment = straps ∧ t.clock = 0 ∧
    (t.harvesting = true ↔ ∃ a, (t.row a).role = .luminaire) ∧
    (∀ a, t.lum a = ⟨1000, 0, 1000, .unknown, 0, false, 0, false, false, .good, 0, 0⟩) ∧
    t.pendingList = [] ∧
    (∀ z, t.zone z =
      ⟨if (t.zoneConfig z).inUse then .track else .unbound, 1000, 0, .zero, none, false, false⟩) ∧
    (∀ c, t.channel c = ⟨0, .unseen, 0, 0, .zero⟩) ∧
    t.scan.state = .suspended ∧ t.scan.next = none ∧ t.scan.onRow = false ∧ t.scan.urgent = false ∧
    t.scan.pending = false ∧ t.scan.pendingUrgent = false ∧ t.scan.start = .zero ∧
    t.power.present = false ∧ t.power.above = above ∧ t.rowTx = .powerless ∧
    t.starvation = 0 ∧ t.lowerTurn = false ∧ t.emission = none ∧
    t.forward = [] ∧ t.lastTag = 15 ∧ t.tagsInUse = [] ∧
    t.noticesLost = false ∧ t.trunkTx = .idle ∧ t.answer = none ∧
    t.counters = ⟨0, 0, 0, 0, 0, 0, 0⟩ ∧ t.verify = ⟨0, 0, .zero, none, 0, none, none⟩ ∧
    t.store.writing = none ∧ t.store.last = .none ∧ t.snapshot = none ∧
    t.upstream =
      (if t.tables.routes[0].priority = 0 then []
       else [⟨.notice ⟨.restarted cause, 0, t.tables.routes[0].priority⟩, false, false⟩])

/-- A scheduled warm restart whose moment has come (R41, R46, R63, R169, R170): tables, segment number, base levels, base fades and the row power monitor are kept, the other blocks take their restart values, outputs are recomputed with R = 1000, and with row power PRESENT every luminaire is PENDING in ascending order and a scan is triggered; then RESTARTED WARM is raised. Before that moment the command only lets time pass (log entry 2), and the moment is the command's own (log entry 10); that RESTARTED follows the events of a scan that completes at its start, and that the row map acts before the scan controller, are log entries 32 and 30; that activity of another party on the row is kept is log entry 33; that the scan's captured range is 0 to 7 until a scan starts is log entry 4, and that the part of a millisecond starts at 0 with the clock is log entry 6; that emission fade, health and counts are set for entries that are no LUMINAIRE too, where R24 and R41 differ, is log entry 37. -/
def Obligations.WarmRestartKeepsTablesAndBases : Prop :=
  ∀ (after : Nat) (s : State),
    let v := passTime after s
    let due := v.restart = .due ∨ (v.restart = .afterAnswer ∧
      ∃ f since, v.trunkTx = .answering f since ∧ since + f.time ≤ v.portTime)
    (¬ due → exec (.warmRestart after) s = .next v) ∧
    (due → ∃ t, exec (.warmRestart after) s = .next t ∧
      (let present := s.power.present
       let base := fun a : Addr => (s.lum a).base
       let blocks := { v with
         clock := 0, subMs := 0
         lums := Vector.ofFn fun a : Addr =>
           { s.lum a with
             output := if s.isLum a = true then
                 (match (s.row a).zone with
                  | some z => if (s.zoneConfig z).inUse = false then base a
                      else if base a = 0 then 0 else max (s.row a).pmin (base a)
                  | none => base a)
               else (s.lum a).output
             shadow := if present = true ∧ s.isLum a = true then .pending else .unknown
             emissionFade := (s.lum a).baseFade, sentValid := false, urgent := false
             aligned := false, health := .good, mismatches := 0, misses := 0 }
         pendingList := if present then s.luminaires else []
         zones := Vector.ofFn fun z : ZoneId =>
           ⟨if (s.zoneConfig z).inUse then .track else .unbound, 1000, 0, .zero, none, false, false⟩
         channels := Vector.replicate 8 ⟨0, .unseen, 0, 0, .zero⟩
         scan := ⟨if present then .idle else .suspended, 0, 7, none, none, false, false, .zero,
           false, false, false, false, false⟩
         rowTx := if present then .gap else .powerless
         rowActivity := v.portTime
         starvation := 0, lowerTurn := false, emission := none
         forward := [], lastTag := 15, tagsInUse := []
         upstream := [], noticesLost := false, lostSinceStart := false
         trunkTx := .idle, answer := none
         trunkIdle := match v.trunkTx with
           | .answering _ _ => some v.portTime
           | _ => v.trunkIdle
         counters := ⟨0, 0, 0, 0, 0, 0, 0⟩
         verify := ⟨0, 0, .zero, none, 0, none, none⟩
         store := ⟨s.store.image, none, .none⟩, snapshot := none, restart := .none }
       t = raise (.restarted .warm) (if present then trigger false blocks else blocks)) ∧
      t.tables = s.tables ∧ t.segment = s.segment ∧ t.power = s.power ∧ t.clock = 0 ∧
      (∀ a, (t.lum a).base = (s.lum a).base ∧ (t.lum a).baseFade = (s.lum a).baseFade ∧
        (t.lum a).sent = (s.lum a).sent ∧ (t.lum a).sentValid = false ∧ (t.lum a).urgent = false ∧
        (t.lum a).aligned = false ∧ (t.lum a).health = .good ∧ (t.lum a).mismatches = 0 ∧
        (t.lum a).misses = 0) ∧
      (∀ c, t.channel c = ⟨0, .unseen, 0, 0, .zero⟩) ∧
      t.rowTx = (if s.power.present then .gap else .powerless) ∧ t.emission = none ∧
      t.starvation = 0 ∧ t.forward = [] ∧ t.lastTag = 15 ∧ t.tagsInUse = [] ∧
      t.trunkTx = .idle ∧ t.answer = none ∧ t.counters = ⟨0, 0, 0, 0, 0, 0, 0⟩ ∧
      t.verify = ⟨0, 0, .zero, none, 0, none, none⟩ ∧
      t.store = ⟨s.store.image, none, .none⟩ ∧ t.snapshot = none ∧ t.restart = .none ∧
      (s.power.present = false →
        t.pendingList = [] ∧ (∀ a, (t.lum a).shadow = .unknown) ∧ t.scan.state = .suspended ∧
        (∀ z, t.zone z = ⟨if (s.zoneConfig z).inUse then .track else .unbound, 1000, 0, .zero, none,
          false, false⟩) ∧
        t.upstream = (if s.tables.routes[0].priority = 0 then []
          else [⟨.notice ⟨.restarted .warm, 0, s.tables.routes[0].priority⟩, false, false⟩])) ∧
      (s.power.present = true →
        t.pendingList = s.luminaires ∧ t.scan.state ≠ .suspended ∧
        ∀ a, (t.lum a).shadow = (if s.isLum a then .pending else .unknown)))

/-! ## Invariants -/

/-- Every step keeps the row map's rule (R24, R35): the pending list holds an address, once, exactly when its entry is PENDING, and every shadow state means what it says. It keeps what UNKNOWN and IN FLIGHT mean beside the level frame on the row too (R31, R34, R38, R124), given the row map's rule and the row's owner: S is invalid in UNKNOWN, an IN FLIGHT entry is covered by the one emission record with S its level, the record covers no entry twice, and its frame carries that level. -/
def Obligations.StepKeepsRowMap : Prop :=
  (∀ s t : State, s.RowMapOk → step s = .next t → t.RowMapOk) ∧
  ∀ s t : State, s.RowMapOk ∧ s.OwnersOk ∧ s.FlightOk → step s = .next t → t.FlightOk

/-- Every step keeps the capacities of the queues, tags and counts (R15, R22, R120, R135, R136). -/
def Obligations.StepKeepsCapacities : Prop :=
  ∀ s t : State, s.CapacitiesOk → step s = .next t → t.CapacitiesOk

/-- Every step keeps every table field, level, ratio, estimate, reading and count in its range. -/
def Obligations.StepKeepsRanges : Prop :=
  ∀ s t : State, s.RangesOk → step s = .next t → t.RangesOk

/-- Every step keeps a zone bound exactly while it is in use (R82), and the scan controller SUSPENDED and the row transmitter POWERLESS exactly while row power is ABSENT (R56, R113). -/
def Obligations.StepKeepsModes : Prop :=
  ∀ s t : State, s.ModesOk → step s = .next t → t.ModesOk

/-- Every step keeps the order of the upstream queue: every queued notice has priority 1 to 7, DEFERRED REPLY frames stand first, notices by falling priority, no two notices of one kind and subject (R15, R171), given the ranges of the routes. -/
def Obligations.StepKeepsUpstreamOrder : Prop :=
  ∀ s t : State, s.RangesOk ∧ s.UpstreamOk → step s = .next t → t.UpstreamOk

/-- Every step keeps each block's record of its frame on the row in agreement with the one frame that is there (R12, R114), given the agreement of modes. -/
def Obligations.StepKeepsRowOwners : Prop :=
  ∀ s t : State, s.ModesOk ∧ s.OwnersOk → step s = .next t → t.OwnersOk

/-- Every step keeps a tag in use exactly while its entry stands in the forward queue or its DEFERRED REPLY in the upstream queue, so each deferral has exactly one DEFERRED REPLY (R135, R142), given the capacities and the row's owner. -/
def Obligations.StepKeepsTags : Prop :=
  ∀ s t : State, s.CapacitiesOk ∧ s.OwnersOk ∧ s.TagsOk → step s = .next t → t.TagsOk

/-! ## The link and the formats -/

/-- A line spells bytes as a start cell, coded as a 1, and the cells of each byte, least significant bit first, a 1 as low then high and a 0 as high then low (R2, R4). Whatever bytes a line's half-cell levels spell, the receiver has exactly these bytes (R2 to R4), and the noise mark exactly when some half-cell's three samples differ (R3). Where line activity ends inside a byte, or a cell has no mid-cell transition, the start cell included, it has the whole bytes before that and the mark of the break, which is a framing error (R5). -/
def Obligations.ReceiverReadsWhatTheLineSpells : Prop :=
  let levels := fun line : List Cell => line.map fun c => (c.1.level, c.2.level)
  let noisy := fun line : List Cell => line.any fun c => c.1.noisy || c.2.noisy
  (∀ bytes : List Byte, driveBytes bytes =
    (false, true) :: bytes.flatMap fun b => (List.range 8).map fun k => (!b.getLsbD k, b.getLsbD k)) ∧
  (∀ (bytes : List Byte) (line : List Cell), levels line = driveBytes bytes →
    receive line = ⟨bytes, false, noisy line⟩) ∧
  (∀ (bytes : List Byte) (bits : List Bool) (line : List Cell), bits.length < 8 →
    levels line = driveBytes bytes ++ bits.map (fun b => (!b, b)) →
    (bits ≠ [] → receive line = ⟨bytes, true, noisy line⟩) ∧
    ∀ (c : Cell) (rest : List Cell), c.1.level = c.2.level →
      receive (line ++ c :: rest) = ⟨bytes, true, noisy (line ++ c :: rest)⟩) ∧
  ∀ (c : Cell) (rest : List Cell), c.1.level = c.2.level →
    receive (c :: rest) = ⟨[], true, noisy (c :: rest)⟩

/-- The check byte (R173): CRC-8 with generator x^8 + x^2 + x + 1 and initial value 0 over header, segment, unit and payload, which a receiver compares and which leaves the register at 0. -/
def Obligations.CheckByteIsTheCrc : Prop :=
  crc8 [] = 0 ∧
  (∀ (bs : List Byte) (b : Byte),
    crc8 (bs ++ [b]) =
      (List.range 8).foldl (fun (r : Byte) _ => if r.msb then (r <<< 1) ^^^ 0x07 else r <<< 1)
        (crc8 bs ^^^ b)) ∧
  (∀ f : Frame, f.bytes =
    BitVec.ofNat 8 (kindCode f.kind * 16 + f.payload.length) :: f.segment :: f.unit :: f.payload ++
      [crc8 (BitVec.ofNat 8 (kindCode f.kind * 16 + f.payload.length) :: f.segment :: f.unit :: f.payload)]) ∧
  (∀ f : Frame, crc8 f.bytes = 0) ∧
  ∀ (f : Frame) (c : Byte) (noise : Bool), f.payload.length ≤ 12 →
    (checkFrame ⟨f.body ++ [c], false, noise⟩ = .check ↔ c ≠ crc8 f.body)

/-- What the trunk receiver makes of a frame that arrives whole (R5 to R8, R175): a foreign segment is ignored, a wrong check byte is a check error whatever its header, a right one with the invalid kind code 0 or 9 to 15 is a framing error, and a good frame is a framing error, discarded or delivered by its kind, unit, length and form, with or without a noise mark. The order of these tests where two apply is the model's reading, log entry 12. A frame that breaks off (R5, R7): before its unit byte is whole it is a framing error whatever its segment, as is one with a length field above 12; one of a foreign segment is ignored from the end of the unit byte on. -/
def Obligations.TrunkReceiverSortsFrames : Prop :=
  (∀ (own h segment unit : Byte) (rest bytes : List Byte) (broken noise : Bool),
    (bytes.length < 3 → trunkVerdict own ⟨bytes, broken, noise⟩ = .framing) ∧
    (12 < h.toNat % 16 → trunkVerdict own ⟨h :: segment :: unit :: rest, broken, noise⟩ = .framing) ∧
    (h.toNat % 16 ≤ 12 → segment ≠ own → segment ≠ 255 →
      trunkVerdict own ⟨h :: segment :: unit :: rest, broken, noise⟩ = .ignored) ∧
    (segment = own ∨ segment = 255 → broken = true ∨ rest.length ≠ h.toNat % 16 + 1 →
      trunkVerdict own ⟨h :: segment :: unit :: rest, broken, noise⟩ = .framing)) ∧
  (∀ (own h segment unit c : Byte) (payload : List Byte) (noise : Bool),
    h.toNat % 16 ≤ 12 → payload.length = h.toNat % 16 → segment = own ∨ segment = 255 →
    let verdict := trunkVerdict own ⟨h :: segment :: unit :: payload ++ [c], false, noise⟩
    let check := crc8 (h :: segment :: unit :: payload)
    (c ≠ check → verdict = .check) ∧
    (c = check → h.toNat / 16 = 0 ∨ 9 ≤ h.toNat / 16 → verdict = .framing)) ∧
  ∀ (own : Byte) (f : Frame) (noise : Bool), f.payload.length ≤ 12 →
    let p := fun i : Nat => (f.payload.getD i 0).toNat
    let required := match f.kind with
      | .setLevel => 3
      | .query => 1
      | .deviceConfig => if p 0 = 1 then 3 else 1
      | .manage =>
        if p 0 = 1 then 5
        else if p 0 = 2 then
          (if p 2 = 1 ∨ p 2 = 3 then 4 + 3
           else if p 2 = 2 ∨ p 2 = 5 ∨ p 2 = 7 then 4 + 8
           else if p 2 = 6 then 4 + 2
           else 4)
        else if p 0 = 3 then 4 + 2 * (p 3 / 16 % 4 + 1)
        else if p 0 = 4 then 4
        else if p 0 = 8 then 3
        else 2
      | _ => 0
    (f.segment ≠ own → f.segment ≠ 255 → trunkVerdict own ⟨f.bytes, false, noise⟩ = .ignored) ∧
    (f.segment = own ∨ f.segment = 255 →
      (∀ c, c ≠ crc8 f.body → trunkVerdict own ⟨f.body ++ [c], false, noise⟩ = .check) ∧
      trunkVerdict own ⟨f.bytes, false, noise⟩ =
        if f.kind = .reply ∨ f.kind = .response ∨ f.kind = .deferredReply ∨ f.kind = .notice then .framing
        else if ¬ (f.unit.toNat < 80 ∨ f.unit = 126 ∨ f.unit = 127) then .discarded
        else if f.payload.length < required then .framing
        else if (f.kind = .setLevel ∧ f.unit = 126) ∨
            (f.kind = .query ∧ (64 ≤ f.unit.toNat ∨ f.segment = 255)) ∨
            (f.kind = .deviceConfig ∧ f.unit = 126) ∨ (f.kind = .manage ∧ f.unit ≠ 126) then .discarded
        else .delivered f)

/-- A written entry is read back as the bytes it is written with (11, Table entries): for tables 1, 2, 3, 5, 6 and 7, the bytes an in-range entry is read as are a written entry with the same fields. A written entry of these tables is taken exactly when every field is in its range (R23, R42, R45, R62, R157, R158), with the fields its bytes spell, and is otherwise out of range as a whole; every value of table 5 is taken. -/
def Obligations.WritableEntriesRoundTrip : Prop :=
  (∀ r : RowConfig, r.inRange = true → parseRow (BitVec.ofNat 24 (bytesValue (rowBytes r))) = some r) ∧
  (∀ z : ZoneConfig, z.inRange = true → parseZone (BitVec.ofNat 64 (bytesValue (zoneBytes z))) = some z) ∧
  (∀ c : ChannelConfig, c.inRange = true →
    parseChannel (BitVec.ofNat 24 (bytesValue (channelBytes c))) = some c) ∧
  (∀ v : BitVec 64, BitVec.ofNat 64 (bytesValue (bytes64 v)) = v) ∧
  (∀ r : Route, r.inRange = true → parseRoute (BitVec.ofNat 16 (bytesValue (routeBytes r))) = some r) ∧
  (∀ t : Settings, t.inRange = true →
    parseSettings (BitVec.ofNat 64 (bytesValue (settingsBytes t))) = some t) ∧
  (∀ e : BitVec 24,
    let b := fun i : Nat => e.toNat / 256 ^ (2 - i) % 256
    let k := b 1 * 256 + b 2
    parseRow e =
      (if b 0 ≤ 2 ∧ (b 1 < 16 ∨ b 1 = 255) ∧ 1 ≤ b 2 ∧ b 2 ≤ 250 then
        some {
          role := if b 0 = 0 then .absent else if b 0 = 1 then .luminaire else .sensor
          zone := if b 1 < 16 then some (Fin.ofNat 16 (b 1)) else none
          pmin := b 2 }
      else none) ∧
    parseChannel e =
      (if (b 0 < 64 ∨ b 0 = 255) ∧ k ≤ 4095 then
        some { unit := if b 0 < 64 then some (Fin.ofNat 64 (b 0)) else none, k := k }
      else none)) ∧
  (∀ e : BitVec 16,
    let priority := e.toNat / 256
    let rescan := e.toNat % 256
    parseRoute e =
      if priority ≤ 7 ∧ rescan ≤ 1 then some { priority := priority, rescan := rescan == 1 } else none) ∧
  (∀ e : BitVec 64,
    let b := fun i : Nat => e.toNat / 256 ^ (7 - i) % 256
    let target := b 2 * 16 + b 3 / 16
    let slewUp := b 3 % 16 * 256 + b 4
    let slewDown := b 5 * 16 + b 6 / 16
    let offDwell := b 6 % 16 * 256 + b 7
    parseZone e =
      if target ≤ 2000 ∧ 1 ≤ slewUp ∧ slewUp ≤ 1000 ∧ 1 ≤ slewDown ∧ slewDown ≤ 1000 ∧ b 1 ≤ 100 ∧
          offDwell ≤ 3600 then
        some {
          inUse := decide (128 ≤ b 0), switchOff := decide (64 ≤ b 0 % 128), trimFade := Fin.ofNat 16 (b 0)
          deadBand := b 1, target := target, slewUp := slewUp, slewDown := slewDown, offDwell := offDwell }
      else none) ∧
  (∀ e : BitVec 64,
    let b := fun i : Nat => e.toNat / 256 ^ (7 - i) % 256
    let first := b 0 / 16
    let last := b 0 % 16
    let staleLimit := b 1 / 16
    let recoverLimit := b 1 % 16
    let mode := b 2 / 64
    let sky := b 2 % 16
    let threshold := b 2 / 16 % 4 * 256 + b 7
    let period := b 3 * 256 + b 4
    let verifyInterval := b 5 * 256 + b 6
    parseSettings e =
      if first ≤ last ∧ last ≤ 7 ∧ 1 ≤ staleLimit ∧ 1 ≤ recoverLimit ∧ mode ≤ 2 ∧ (sky ≤ 7 ∨ sky = 15) ∧
          50 ≤ threshold ∧ threshold ≤ 1000 ∧ 250 ≤ period ∧ period ≤ 60000 ∧
          200 ≤ verifyInterval ∧ verifyInterval ≤ 60000 then
        some {
          first := Fin.ofNat 8 first, last := Fin.ofNat 8 last
          mode := if mode = 0 then .off else if mode = 1 then .periodic else .continuous
          period := period
          sky := if sky ≤ 7 then some (Fin.ofNat 8 sky) else none
          threshold := threshold, staleLimit := staleLimit, recoverLimit := recoverLimit
          verifyInterval := verifyInterval }
      else none)

/-- A SET LEVEL, QUERY or DEVICE CONFIG frame that arrives whole is the command of its row, to one unit, to a group and to unit 127, with every operand and every further payload byte up to the frame's twelve (R97, R98, R130). -/
def Obligations.ReceivedFramesAreTheirCommands : Prop :=
  ∀ (s : State) (after : Nat) (noise : Bool) (d : Dest) (a : Addr) (g : GroupId) (word : BitVec 16)
    (fade code : Byte) (extra more : List Byte), extra.length ≤ 9 → more.length ≤ 11 →
    let seg : Byte := match d with
      | .own => s.segmentByte
      | .all => 255
    let one : Byte := BitVec.ofNat 8 a.val
    let group : Byte := BitVec.ofNat 8 (64 + g.val)
    let command := fun f : Frame => trunkCommand s.segmentByte after ⟨f.bytes, false, noise⟩
    let levels := bytes16 word.toNat ++ fade :: extra
    let groups := 1 :: bytes16 word.toNat ++ extra
    command ⟨.setLevel, seg, one, levels⟩ = .setLevelUnit after d a word fade extra ∧
    command ⟨.setLevel, seg, group, levels⟩ = .setLevelGroup after d g word fade extra ∧
    command ⟨.setLevel, seg, 127, levels⟩ = .setLevelBroadcast after d word fade extra ∧
    command ⟨.query, s.segmentByte, one, code :: more⟩ =
      (if code = 1 then .queryTargetLevel after a more
       else if code = 8 then .queryLightReading after a more
       else .queryOtherItem after a code more) ∧
    command ⟨.deviceConfig, seg, one, groups⟩ = .deviceConfigSetGroups after d (.unit a) word extra ∧
    command ⟨.deviceConfig, seg, group, groups⟩ = .deviceConfigSetGroups after d (.group g) word extra ∧
    command ⟨.deviceConfig, seg, 127, groups⟩ = .deviceConfigSetGroups after d .all word extra ∧
    (code ≠ 1 →
      command ⟨.deviceConfig, seg, one, code :: more⟩ = .deviceConfig after d (.unit a) code more ∧
      command ⟨.deviceConfig, seg, group, code :: more⟩ = .deviceConfig after d (.group g) code more ∧
      command ⟨.deviceConfig, seg, 127, code :: more⟩ = .deviceConfig after d .all code more)

/-! ## The trunk port -/

/-- A frame that the trunk port does not deliver (R5 to R8, R22): a framing or check error takes its counter, which saturates at 255, and nothing else; an ignored or discarded frame only ends. A frame that the trunk receiver ignores, discards or finds in error is the command of that row. -/
def Obligations.UndeliveredFramesOnlyCount : Prop :=
  (∀ (after : Nat) (rx : Reception) (s : State),
    let v := trunkFrameEnd after s
    exec (.trunkFrameIgnored after rx) s = .next v ∧
    exec (.trunkFrameDiscarded after rx) s = .next v ∧
    exec (.trunkFrameError after rx) s = .next
      (if trunkVerdict s.segmentByte rx = .framing then
        { v with counters := { v.counters with trunkFraming := min (v.counters.trunkFraming + 1) 255 } }
      else if trunkVerdict s.segmentByte rx = .check then
        { v with counters := { v.counters with trunkCheck := min (v.counters.trunkCheck + 1) 255 } }
      else v)) ∧
  ∀ (own : Byte) (after : Nat) (rx : Reception),
    (trunkVerdict own rx = .ignored → trunkCommand own after rx = .trunkFrameIgnored after rx) ∧
    (trunkVerdict own rx = .framing ∨ trunkVerdict own rx = .check →
      trunkCommand own after rx = .trunkFrameError after rx) ∧
    (trunkVerdict own rx = .discarded → trunkCommand own after rx = .trunkFrameDiscarded after rx)

/-- An immediate answer starts 4 ms after the end of its request on a line that stayed idle (R10), and not before; it changes nothing but the trunk transmitter. A frame's end on the trunk: the line is idle from then, and an answer that has not started is abandoned and counted (R10, R13; that the frame's activity came before the answer's start is the model's reading, log entry 11). Line activity alone does the same but leaves the line active. -/
def Obligations.AnswersAndActivity : Prop :=
  (∀ (after : Nat) (s : State),
     let v := passTime after s
     exec (.trunkAnswerStart after) s = .next
       (match v.answer with
        | none => v
        | some a =>
          if 4000 ≤ v.portTime - a.requestEnd ∧ v.trunkIdle ≠ none then
            { v with answer := none, trunkTx := .answering a.frame v.portTime, trunkIdle := none }
          else v)) ∧
  (∀ (after : Nat) (s : State),
     let v := passTime after s
     let plan := if v.restart = .afterAnswer then RestartPlan.due else v.restart
     let lost := { v.counters with arbitration := min (v.counters.arbitration + 1) 255 }
     (v.answer = none →
       exec (.trunkLineActivity after) s = .next { v with trunkIdle := none } ∧
       trunkFrameEnd after s = { v with trunkIdle := some v.portTime }) ∧
     (∀ a, v.answer = some a →
       exec (.trunkLineActivity after) s =
         .next { v with trunkIdle := none, answer := none, counters := lost, restart := plan } ∧
       trunkFrameEnd after s =
         { v with trunkIdle := some v.portTime, answer := none, counters := lost, restart := plan }))

/-- The head of the upstream queue starts when the trunk has been idle for 24 ms, 3 ms for each class and 0.25 ms for each segment number (R13): its content is fixed with the notices-lost flag as it stands, and its entry is marked (R17, R18). The codes of the outcomes, and the kind, subject and data of every event, are those of 11_frame_and_entry_formats. -/
def Obligations.QueuedFrameStartsWhenQualified : Prop :=
  (∀ (after : Nat) (s : State),
    let v := passTime after s
    (v.upstream = [] ∨ v.trunkIdle = none ∨ v.trunkTx ≠ .idle →
      exec (.trunkTransmitStart after) s = .next v) ∧
    ∀ e q since, v.upstream = e :: q → v.trunkIdle = some since → v.trunkTx = .idle →
      let cls := if e.isNotice then 2 else 1
      let frame : Frame := match e.item with
        | .deferred d => ⟨.deferredReply, v.segmentByte, d.unit,
            [byte d.tag.val, byte (outcomeCode d.outcome), byte (if d.noisy then 4 else 0)] ++ d.data⟩
        | .notice n => ⟨.notice, v.segmentByte, 126,
            [byte n.event.kind.val, byte (if v.noticesLost then 8 else 0), byte n.event.subject] ++
              bytes32 n.time.toNat ++ n.event.data⟩
      exec (.trunkTransmitStart after) s = .next
        (if 24000 + 3000 * cls + 250 * v.segment.val ≤ v.portTime - since then
          { v with
            upstream := { e with sending := true, merged := false } :: q
            trunkTx := .sending frame v.portTime (e.isNotice && v.noticesLost)
            trunkIdle := none
            lostSinceStart := false }
        else v)) ∧
  (outcomeCode .answered = 0 ∧ outcomeCode .noAnswer = 1 ∧ outcomeCode .timeout = 2 ∧
    outcomeCode .noPower = 3) ∧
  (∀ (c : ChannelId) (z : ZoneId) (a : Addr) (unit : Option Addr) (x y : Nat),
     let shows := fun (e : Event) (kind subject : Nat) (data : List Byte) =>
       e.kind.val = kind ∧ e.subject = subject ∧ e.data = data
     let unitByte := byte (match unit with
       | some u => u.val
       | none => 255)
     shows (.restarted .powerOn) 0 0 [] ∧ shows (.restarted .defaults) 0 1 [] ∧
     shows (.restarted .warm) 0 2 [] ∧
     shows (.sensorStale c unit) 1 c.val [unitByte] ∧ shows (.sensorRecovered c unit) 2 c.val [unitByte] ∧
     shows (.skyTransient c x y) 3 c.val (bytes16 x ++ bytes16 y) ∧
     shows (.zoneFailsafeEntered z x y) 4 z.val (bytes16 x ++ bytes16 y) ∧
     shows (.zoneFailsafeLeft z x y) 5 z.val (bytes16 x ++ bytes16 y) ∧
     shows (.luminaireFault a .mismatch x) 6 a.val (0 :: bytes16 x) ∧
     shows (.luminaireFault a .miss x) 6 a.val (1 :: bytes16 x) ∧
     shows (.luminaireRecovered a x) 7 a.val (bytes16 x) ∧
     shows .rowPowerLost 8 0 [] ∧ shows .rowPowerRestored 9 0 [] ∧
     shows (.storeResult .done) 10 0 [] ∧ shows (.storeResult .failed) 10 1 [])

/-- A frame driven to its end without loss (R17, R18, R135): its entry leaves the queue unless a merge replaced its data meanwhile, its tag is free, and a notice that carried the notices-lost flag clears the marker unless another notice was lost since. An answer is over (log entry 9). A frame lost to arbitration (R10, R14, R17): one loss is counted, the entry of a queued frame stays in its place unmarked, and an answer is abandoned. The comparison that tells the loss (R14): a mismatch is a half-cell that the part releases and samples low, or drives low and samples high; a frame whose half-cells are sampled as they are driven has none. That the displacement of the notice being transmitted counts among those since its start, so that the marker stays set when it is sent, is the model's choice, log entry 35. That a loss after which the line falls idle counts no framing error is the model's choice, log entry 36. -/
def Obligations.TransmissionEnds : Prop :=
  (∀ (after : Nat) (s : State),
     let v := passTime after s
     (v.trunkTx = .idle → exec (.trunkFrameSent after) s = .next v) ∧
     (∀ f since, v.trunkTx = .answering f since →
       exec (.trunkFrameSent after) s = .next
         (if since + (3 + 8 * (4 + f.payload.length)) * 208 ≤ v.portTime then
           { v with
             trunkTx := .idle, trunkIdle := some v.portTime
             restart := if v.restart = .afterAnswer then .due else v.restart }
         else v)) ∧
     (∀ f since flag, v.trunkTx = .sending f since flag →
       exec (.trunkFrameSent after) s = .next
         (if since + (3 + 8 * (4 + f.payload.length)) * 208 ≤ v.portTime then
           { v with
             upstream := (v.upstream.filter fun e => !e.sending || e.merged).map fun e =>
               { e with sending := false, merged := false }
             tagsInUse := v.tagsInUse.filter fun t => !(v.upstream.any fun e =>
               match e.item with
               | .deferred d => e.sending && !e.merged && d.tag == t
               | .notice _ => false)
             noticesLost := v.noticesLost && (!flag || v.lostSinceStart)
             trunkTx := .idle
             trunkIdle := some v.portTime }
         else v))) ∧
  (∀ (after : Nat) (lineIdle : Bool) (s : State),
     let v := passTime after s
     let lost := { v with
       upstream := v.upstream.map fun e => { e with sending := false, merged := false }
       trunkTx := .idle
       trunkIdle := if lineIdle then some v.portTime else none
       counters := { v.counters with arbitration := min (v.counters.arbitration + 1) 255 } }
     (v.trunkTx = .idle → exec (.arbitrationLoss after lineIdle) s = .next v) ∧
     (∀ f since flag, v.trunkTx = .sending f since flag →
       exec (.arbitrationLoss after lineIdle) s = .next lost) ∧
     (∀ f since, v.trunkTx = .answering f since →
       exec (.arbitrationLoss after lineIdle) s = .next
         { lost with restart := if v.restart = .afterAnswer then .due else v.restart })) ∧
  (∀ driven sampled : List Bool,
     (arbitrationMismatch driven sampled = true ↔
       ∃ i : Nat, (driven[i]? = some true ∧ sampled[i]? = some false) ∨
         (driven[i]? = some false ∧ sampled[i]? = some true)) ∧
     arbitrationMismatch driven driven = false)

/-- A DEFERRED REPLY that finds fewer than 8 frames stands after the last deferred reply; one that finds the queue full displaces the oldest notice of the lowest priority among those not being transmitted, or else the notice being transmitted, and the marker is set (R15, R18). A NOTICE that is offered merges with a queued one of its kind and subject, else takes a free place behind its own priority, else displaces the oldest notice of a lower lowest priority, else is dropped; the last two set the marker (R16, R18, R172). That the displacement of the notice being transmitted counts as one since its start is the model's choice, log entry 35. -/
def Obligations.UpstreamQueueTakesOffers : Prop :=
  (∀ (d : DeferredReply) (s : State), s.UpstreamOk → s.upstream.length ≤ 8 →
     let placed := fun q : List UpEntry => (q.filter fun e => !e.isNotice) ++
       ⟨.deferred d, false, false⟩ :: q.filter UpEntry.isNotice
     (s.upstream.length < 8 → offerDeferred d s = { s with upstream := placed s.upstream }) ∧
     (s.upstream.length = 8 → ∀ p, (∃ e ∈ s.upstream, e.isNotice = true ∧ e.sending = false ∧ e.rank = p) →
       (∀ e ∈ s.upstream, e.isNotice = true → e.sending = false → p ≤ e.rank) →
       offerDeferred d s =
         { s with
           upstream := placed (s.upstream.eraseP fun e => e.isNotice && !e.sending && e.rank == p)
           noticesLost := true
           lostSinceStart := true }) ∧
     (s.upstream.length = 8 → (∃ e ∈ s.upstream, e.isNotice = true) →
       (∀ e ∈ s.upstream, e.isNotice = true → e.sending = true) →
       offerDeferred d s =
         { s with
           upstream := placed (s.upstream.eraseP UpEntry.isNotice)
           noticesLost := true
           lostSinceStart := true })) ∧
  (∀ (n : Notice) (s : State),
     let same := fun e : UpEntry => match e.item with
       | .notice m => m.event.sameSubject n.event
       | .deferred _ => false
     let ahead := fun q : List UpEntry => q.takeWhile fun e => decide (n.priority ≤ e.rank)
     let behind := fun q : List UpEntry => q.dropWhile fun e => decide (n.priority ≤ e.rank)
     let placed := fun q : List UpEntry => ahead q ++ ⟨.notice n, false, false⟩ :: behind q
     let lowest := fun p : Nat => (∃ e ∈ s.upstream, e.isNotice = true ∧ e.sending = false ∧ e.rank = p) ∧
       ∀ e ∈ s.upstream, e.isNotice = true → e.sending = false → p ≤ e.rank
     let full := 4 ≤ (s.upstream.filter UpEntry.isNotice).length ∨ 8 ≤ s.upstream.length
     (s.upstream.any same = true →
       ∃ q : List UpEntry, offerNotice n s = { s with upstream := q } ∧ q.length = s.upstream.length ∧
         ∀ (i : Nat) (e : UpEntry), s.upstream[i]? = some e →
           (same e = false → q[i]? = some e) ∧
           (∀ m, e.item = .notice m → same e = true →
             q[i]? = some (UpEntry.mk (.notice (Notice.mk n.event n.time m.priority)) e.sending e.sending))) ∧
     (s.upstream.any same = false →
       (¬ full → offerNotice n s = { s with upstream := placed s.upstream }) ∧
       (full → (∀ p, lowest p →
           offerNotice n s =
             if p < n.priority then
               { s with
                 upstream := placed (s.upstream.eraseP fun e => e.isNotice && !e.sending && e.rank == p)
                 noticesLost := true, lostSinceStart := true }
             else { s with noticesLost := true, lostSinceStart := true }) ∧
         ((∀ e ∈ s.upstream, e.isNotice = true → e.sending = true) →
           offerNotice n s = { s with noticesLost := true, lostSinceStart := true }))))

/-! ## Output, ratio and estimate -/

/-- The output rule (R77, with the first sentence of R78): the first case that applies gives O; O is 0 whenever B is 0, and with a ratio of at most 1000 it never exceeds the larger of B and P_min. -/
def Obligations.OutputFollowsTheRule : Prop :=
  ∀ (s : State) (a : Addr) (b : Nat),
    ((s.row a).zone = none → s.outputFor a b = b) ∧
    (∀ z, (s.row a).zone = some z →
      let c := s.zoneConfig z
      let v := s.zone z
      s.outputFor a b =
        if v.mode = .unbound then b
        else if b = 0 then 0
        else if v.ratio = 0 then
          (match v.zeroSince with
           | some t =>
             if c.switchOff = true ∧ c.offDwell * 1000 ≤ t.interval s.clock then 0 else (s.row a).pmin
           | none => (s.row a).pmin)
        else max (s.row a).pmin ((b * v.ratio + 999) / 1000)) ∧
    (b = 0 → s.outputFor a b = 0) ∧
    ((∀ z, (s.zone z).ratio ≤ 1000) → s.outputFor a b ≤ max b (s.row a).pmin)

/-- The substituted value (R69): rounded to the nearest lux, at most 20000, taken for a channel used by substitution in the pass, and not stored in the channel. -/
def Obligations.SubstitutedValueIsRounded : Prop :=
  (∀ k sky : Nat, substitute k sky = min 20000 ((k * sky + 512) / 1024)) ∧
  (∀ k sky : Nat, k ≤ 4095 → sky ≤ 20000 → k * sky ≤ 81900000 ∧ (k * sky + 512) / 1024 ≤ 79980) ∧
  (∀ k sky : Nat, substitute k sky < 20000 →
    2 * (k * sky) < 2 * (substitute k sky * 1024) + 1024 ∧ 2 * (substitute k sky * 1024) ≤ 2 * (k * sky) + 1024) ∧
  (∀ (s : State) (c q : ChannelId), usableDirectly s c = false → inScanRange s c = true →
    (s.channel c).health = .stale → s.settings.sky = some q → usableDirectly s q = true →
    0 < (s.channelConfig c).k →
    channelValue s c = some (substitute (s.channelConfig c).k (s.channel q).reading)) ∧
  (∀ (s : State) (z : ZoneId), estimateOf s z =
    min 20000 (((channelIds.map fun c => s.coeff z c * (channelValue s c).getD 0).sum + 512) / 1024)) ∧
  ∀ (s : State) (c : ChannelId), (computePass s).channel c = s.channel c

/-- Which channels a pass can use (R66, R67): a channel in the captured range is usable directly while FRESH or SUSPECT; a STALE one is usable by substitution when the sky channel is set and usable directly and its k is above 0; no other is usable. What a compute pass leaves in each zone (R65, R68, R70, R74, R75): an unbound zone as it was; a bound one with blind and degraded from the channels it weighs, its mode between TRACK and FAILSAFE by blindness, its estimate formed in TRACK and kept otherwise, its last pass time now, and zero-since by the zero dwell. A pass raises R by no more than its step up and lowers it by no more than its step down (R73), with the elapsed time clamped to 1 to 10000 ms; in TRACK, where R is below the dead-banded R* (R71, R72), it becomes the smaller of R* and R plus the step up, and else the larger of R* and R less the step down; in FAILSAFE the same with 1000 for R* (R86); in HOLD, MANUAL and UNBOUND it is kept. -/
def Obligations.PassTreatsZones : Prop :=
  (∀ (s : State) (c : ChannelId),
     let direct := fun q : ChannelId => s.scan.first ≤ q ∧ q ≤ s.scan.last ∧
       ((s.channel q).health = .fresh ∨ (s.channel q).health = .suspect)
     (direct c → channelValue s c = some (s.channel c).reading) ∧
     (¬ direct c →
       ((channelValue s c).isSome = true ↔
         s.scan.first ≤ c ∧ c ≤ s.scan.last ∧ (s.channel c).health = .stale ∧
           0 < (s.channelConfig c).k ∧ ∃ q, s.settings.sky = some q ∧ direct q))) ∧
  (∀ (s : State) (z : ZoneId),
     let v := s.zone z
     let w := (computePass s).zone z
     let weighed := fun c : ChannelId => 0 < s.coeff z c
     let blind := ∀ c, weighed c → channelValue s c = none
     (v.mode = .unbound → w = v) ∧
     (v.mode ≠ .unbound →
       (w.blind = true ↔ blind) ∧
       (w.degraded = true ↔ ¬ blind ∧ ∃ c, weighed c ∧ usableDirectly s c = false) ∧
       (w.mode = .failsafe ↔ (v.mode = .track ∨ v.mode = .failsafe) ∧ blind) ∧
       (w.mode = .track ↔ (v.mode = .track ∨ v.mode = .failsafe) ∧ ¬ blind) ∧
       (v.mode = .hold ∨ v.mode = .manual → w.mode = v.mode) ∧
       w.estimate = (if w.mode = .track then
           min 20000 (((channelIds.map fun c => s.coeff z c * (channelValue s c).getD 0).sum + 512) / 1024)
         else v.estimate) ∧
       w.lastPass = ⟨s.clock, false⟩ ∧
       w.zeroSince = (if w.ratio = 0 then some (v.zeroSince.getD ⟨s.clock, false⟩) else none))) ∧
  (∀ (s : State) (z : ZoneId),
     let v := s.zone z
     let c := s.zoneConfig z
     let r := ((computePass s).zone z).ratio
     let dt := max 1 (min 10000 (v.lastPass.interval s.clock))
     let up := max 1 ((c.slewUp * dt + 500) / 1000)
     let down := max 1 ((c.slewDown * dt + 500) / 1000)
     r ≤ v.ratio + up ∧ v.ratio ≤ r + down ∧
     (v.ratio ≤ 1000 → r ≤ 1000) ∧
     (((computePass s).zone z).mode = .failsafe → v.ratio ≤ 1000 → r = min 1000 (v.ratio + up)) ∧
     (let w := (computePass s).zone z
      let d := w.estimate
      let raw := if c.target ≤ d then 0 else ((c.target - d) * 1000 + c.target - 1) / c.target
      let wanted :=
        if raw ≠ 0 ∧ raw ≠ 1000 ∧ raw ≤ v.ratio + c.deadBand ∧ v.ratio ≤ raw + c.deadBand
        then v.ratio else raw
      (w.mode = .track → r =
        if v.ratio < wanted then min wanted (v.ratio + up) else max wanted (v.ratio - down)) ∧
      (w.mode = .failsafe → r =
        if v.ratio < 1000 then min 1000 (v.ratio + up) else max 1000 (v.ratio - down)) ∧
      (v.mode ≠ .unbound → r = passRatio s z w.mode)) ∧
     (v.mode = .hold ∨ v.mode = .manual ∨ v.mode = .unbound → r = v.ratio))

/-- The raw ratio of a TRACK zone (R71), within 1 to 1000 when the estimate is below the target; a FAILSAFE zone slews toward 1000, and HOLD and MANUAL form none. -/
def Obligations.RawRatioIsTheShareWanted : Prop :=
  (∀ d, rawRatio 0 d = 0) ∧ (∀ t d, t ≤ d → rawRatio t d = 0) ∧
  (∀ t d, 0 < t → d < t →
    rawRatio t d = ((t - d) * 1000 + t - 1) / t ∧ 1 ≤ rawRatio t d ∧ rawRatio t d ≤ 1000 ∧
    (t - d) * 1000 ≤ rawRatio t d * t ∧ rawRatio t d * t < (t - d) * 1000 + t) ∧
  ∀ (s : State) (z : ZoneId),
    let c := s.zoneConfig z
    let v := s.zone z
    let dt := passInterval v s.clock
    passRatio s z .track =
      slew c dt v.ratio (deadBanded c.deadBand (rawRatio c.target (estimateOf s z)) v.ratio) ∧
    passRatio s z .failsafe = slew c dt v.ratio 1000 ∧
    passRatio s z .hold = v.ratio ∧ passRatio s z .manual = v.ratio

/-- The dead band (R72): an R* that is neither 0 nor 1000 and within the band of R leaves R as it is; at 0 and 1000, and in FAILSAFE, the band is not applied; at R = 0 within the band zero-since is kept, and an R* above the band brings R up. -/
def Obligations.DeadBandHoldsTheRatio : Prop :=
  ∀ band raw r : Nat,
    deadBanded band raw r =
      (if raw ≠ 0 ∧ raw ≠ 1000 ∧ raw ≤ r + band ∧ r ≤ raw + band then r else raw) ∧
    (∀ (c : ZoneConfig) (dt : Nat), raw ≠ 0 → raw ≠ 1000 → raw ≤ r + band → r ≤ raw + band →
      slew c dt r (deadBanded band raw r) = r) ∧
    (deadBanded 0 raw r = raw) ∧
    (∀ (c : ZoneConfig) (dt : Nat), r + band < raw → r < slew c dt r (deadBanded band raw r)) ∧
    (∀ since now : Stamp, zeroDwell 0 (some since) now = some since) ∧
    ∀ (s : State) (z : ZoneId),
      passRatio s z .track = slew (s.zoneConfig z) (passInterval (s.zone z) s.clock) (s.zone z).ratio
        (deadBanded (s.zoneConfig z).deadBand (rawRatio (s.zoneConfig z).target (estimateOf s z))
          (s.zone z).ratio) ∧
      passRatio s z .failsafe = slew (s.zoneConfig z) (passInterval (s.zone z) s.clock) (s.zone z).ratio 1000

/-- A compute pass (R27, R75, R76, R85, R86, R95): with the zones settled, every LUMINAIRE of a bound zone is handed its new output, in ascending order, as a non-urgent update with its zone's trim fade; then ZONE FAILSAFE ENTERED or LEFT is raised for each zone that changed between TRACK and FAILSAFE, in ascending zone order, with R and D after the pass. Every other entry, everything of an entry but output, shadow, urgency and emission fade, and all else of the part stay as they were. -/
def Obligations.PassRecomputesBoundMembers : Prop :=
  ∀ s : State,
    let t := computePass s
    let bound := addresses.filter fun a => s.isLum a &&
      (match (s.row a).zone with
       | some z => (s.zone z).mode != .unbound
       | none => false)
    let updated := State.handOutputs bound { s with zones := t.zones }
    let events := zoneIds.flatMap fun z =>
      if (s.zone z).mode = .track ∧ (t.zone z).mode = .failsafe then
        [Event.zoneFailsafeEntered z (t.zone z).ratio (t.zone z).estimate]
      else if (s.zone z).mode = .failsafe ∧ (t.zone z).mode = .track then
        [Event.zoneFailsafeLeft z (t.zone z).ratio (t.zone z).estimate]
      else []
    t = events.foldl raiseInScan updated ∧
    t = { s with
      zones := t.zones, lums := updated.lums, pendingList := updated.pendingList
      upstream := t.upstream, noticesLost := t.noticesLost, lostSinceStart := t.lostSinceStart
      scan := { s.scan with pending := t.scan.pending, pendingUrgent := t.scan.pendingUrgent } } ∧
    (∀ a z, s.isLum a = true → (s.row a).zone = some z → (s.zone z).mode ≠ .unbound →
      t.lum a =
        (outputUpdate a (t.outputFor a (s.lum a).base) false (s.zoneConfig z).trimFade s).lum a ∧
      (t.lum a).output = t.outputFor a (s.lum a).base) ∧
    (∀ a, (s.isLum a = false ∨ (s.row a).zone = none ∨
        ∃ z, (s.row a).zone = some z ∧ (s.zone z).mode = .unbound) →
      t.lum a = s.lum a) ∧
    ∀ a, (t.lum a).base = (s.lum a).base ∧ (t.lum a).baseFade = (s.lum a).baseFade ∧
      (t.lum a).sent = (s.lum a).sent ∧ (t.lum a).sentValid = (s.lum a).sentValid ∧
      (t.lum a).aligned = (s.lum a).aligned ∧ (t.lum a).health = (s.lum a).health ∧
      (t.lum a).mismatches = (s.lum a).mismatches ∧ (t.lum a).misses = (s.lum a).misses

/-! ## The shadow rules -/

/-- In SYNCED (R28): an update whose O differs from S makes the entry PENDING at the list's tail with the update's urgency and fade, and one whose O equals S changes nothing. That S is O in SYNCED is the row map's rule. -/
def Obligations.UpdateInSynced : Prop :=
  ∀ (a : Addr) (o : Nat) (urgent : Bool) (fade : Fade) (s : State),
    (s.lum a).shadow = .synced → (s.lum a).sent = (s.lum a).output →
    outputUpdate a o urgent fade s =
      if o = (s.lum a).sent then s
      else { s.setLum a { s.lum a with
               output := o, shadow := .pending, urgent := urgent, emissionFade := fade } with
             pendingList := s.pendingList ++ [a] }

/-- In PENDING (R29): the entry keeps its place; an update back to a valid S withdraws it; an urgent one makes it urgent with its fade; a non-urgent one brings its fade unless the entry is urgent; and a non-urgent one that leaves O as it was has no effect (R27). In IN FLIGHT and UNKNOWN (R30): the frame on the row keeps what it carries; IN FLIGHT remembers an urgent update and its fade, and UNKNOWN only stores O. -/
def Obligations.UpdateOutsideSynced : Prop :=
  (∀ (a : Addr) (o : Nat) (urgent : Bool) (fade : Fade) (s : State),
     (s.lum a).shadow = .pending →
     let l := s.lum a
     outputUpdate a o urgent fade s =
       if urgent = false ∧ o = l.output then s
       else if l.sentValid = true ∧ o = l.sent then
         { s.setLum a { l with output := o, shadow := .synced, urgent := false } with
           pendingList := s.pendingList.erase a }
       else if urgent = true then s.setLum a { l with output := o, urgent := true, emissionFade := fade }
       else if l.urgent = true then s.setLum a { l with output := o }
       else s.setLum a { l with output := o, emissionFade := fade }) ∧
  (∀ (a : Addr) (o : Nat) (urgent : Bool) (fade : Fade) (s : State),
     let l := s.lum a
     let u := outputUpdate a o urgent fade s
     ((s.lum a).shadow = .inFlight →
       u = (if urgent = false ∧ o = l.output then s
         else if urgent = true then s.setLum a { l with output := o, urgent := true, emissionFade := fade }
         else if l.urgent = true then s.setLum a { l with output := o }
         else s.setLum a { l with output := o, emissionFade := fade })) ∧
     ((s.lum a).shadow = .unknown → u = s.setLum a { l with output := o }))

/-! ## Level commands, device configuration and queries -/

/-- A SET LEVEL to a luminaire, and in HARVESTING one to a group or to unit 127, is absorbed (R97, R99 to R101): into that luminaire, the group's luminaires or every luminaire, with the taken level and fade (R98); nothing else changes before the arbiter's next choice. A SET LEVEL to an address that is no luminaire, and in REPEATER any SET LEVEL, is forwarded untagged with its unit byte and payload as received and the part's segment number (R102 to R104). -/
def Obligations.SetLevelIsAbsorbedOrForwarded : Prop :=
  (∀ (after : Nat) (dest : Dest) (a : Addr) (g : GroupId) (level : BitVec 16) (fade : Byte)
     (extra : List Byte) (s : State), s.RowMapOk →
     let v := trunkFrameEnd after s
     let absorbed := fun (as : List Addr) (u : State) =>
       State.AbsorbedInto as (min level.toNat 1000) (Fin.ofNat 16 (min fade.toNat 15)) v u
     (v.isLum a = true → ∃ u, exec (.setLevelUnit after dest a level fade extra) s = .next (arbitrate u) ∧
       absorbed [a] u) ∧
     ((∃ b, v.isLum b = true) →
       (∃ u, exec (.setLevelGroup after dest g level fade extra) s = .next (arbitrate u) ∧
         absorbed (addresses.filter fun b => v.isLum b && (v.tables.groups[g.val]).getLsbD b.val) u) ∧
       ∃ u, exec (.setLevelBroadcast after dest level fade extra) s = .next (arbitrate u) ∧
         absorbed (addresses.filter fun b => v.isLum b) u)) ∧
  (∀ (after : Nat) (dest : Dest) (a : Addr) (g : GroupId) (level : BitVec 16) (fade : Byte)
     (extra : List Byte) (s : State),
     let v := trunkFrameEnd after s
     let frame := fun unit : Byte => Frame.mk .setLevel v.segmentByte unit (bytes16 level.toNat ++ fade :: extra)
     (v.isLum a = false → ∃ u, exec (.setLevelUnit after dest a level fade extra) s = .next (arbitrate u) ∧
       State.ForwardedAs (frame (BitVec.ofNat 8 a.val)) v u) ∧
     ((∀ b, v.isLum b = false) →
       (∃ u, exec (.setLevelGroup after dest g level fade extra) s = .next (arbitrate u) ∧
         State.ForwardedAs (frame (BitVec.ofNat 8 (64 + g.val))) v u) ∧
       ∃ u, exec (.setLevelBroadcast after dest level fade extra) s = .next (arbitrate u) ∧
         State.ForwardedAs (frame 127) v u))

/-- Saturation of an absorbed SET LEVEL (R98): the luminaire's B and base fade, and what the luminaire status table returns of them, are the level at most 1000 and the fade at most 15, without count or answer; a forwarded frame carries level and fade as received. -/
def Obligations.AbsorbedLevelSaturates : Prop :=
  ∀ (after : Nat) (dest : Dest) (level : BitVec 16) (fade : Byte) (extra : List Byte) (s : State),
    let v := trunkFrameEnd after s
    let B := if level.toNat ≤ 1000 then level.toNat else 1000
    let F := if fade.toNat ≤ 15 then fade.toNat else 15
    let taken := fun (t : State) (a : Addr) =>
      (t.lum a).base = B ∧ (t.lum a).baseFade.val = F ∧ t.counters = v.counters ∧ t.answer = v.answer ∧
      ∃ rest, readEntry t 10 a.val = some (bytes16 B ++ rest) ∧
        ((rest.headD 0).toNat / 16 = F)
    (∀ a, v.isLum a = true →
      ∃ t, exec (.setLevelUnit after dest a level fade extra) s = .next t ∧ taken t a) ∧
    (∀ g a, v.isLum a = true → (v.tables.groups[(g : GroupId).val]).getLsbD a.val = true →
      ∃ t, exec (.setLevelGroup after dest g level fade extra) s = .next t ∧ taken t a) ∧
    (∀ a, v.isLum a = true →
      ∃ t, exec (.setLevelBroadcast after dest level fade extra) s = .next t ∧ taken t a) ∧
    (∀ a unit, forwardedLevel v unit level fade extra =
      ⟨.setLevel, v.segmentByte, unit, bytes16 level.toNat ++ fade :: extra⟩ ∧
      (v.isLum a = false → ∃ u, exec (.setLevelUnit after dest a level fade extra) s = .next (arbitrate u) ∧
        State.ForwardedAs (forwardedLevel v (BitVec.ofNat 8 a.val) level fade extra) v u))

/-- A DEVICE CONFIG (R105 to R107): in HARVESTING, SET GROUPS to a luminaire is answered OWNED or, for segment 255, discarded, and SET GROUPS to a group or unit 127 is discarded; any other to one unit is deferred, or forwarded for segment 255; any other to a group or unit 127 is forwarded. -/
def Obligations.DeviceConfigIsTreatedByTarget : Prop :=
  ∀ (after : Nat) (dest : Dest) (a : Addr) (wide : Target) (mask : BitVec 16) (code : Byte)
    (extra : List Byte) (s : State), (∀ b, wide ≠ .unit b) →
    let v := trunkFrameEnd after s
    let groups := 1 :: bytes16 mask.toNat ++ extra
    let frame := fun (t : Target) (p : List Byte) => Frame.mk .deviceConfig v.segmentByte t.byte p
    let setGroups := fun t => exec (.deviceConfigSetGroups after dest t mask extra) s
    let other := fun t => exec (.deviceConfig after dest t code extra) s
    let owned := { v with
      answer := some ⟨⟨.response, v.segmentByte, BitVec.ofNat 8 a.val, [6]⟩, v.portTime⟩ }
    let treated := fun (outcome : Host.Outcome State Fault Refusal) (p : List Byte) =>
      ∃ u, outcome = .next (arbitrate u) ∧
        match dest with
        | .own => State.DeferredAs (frame (.unit a) p) v u
        | .all => State.ForwardedAs (frame (.unit a) p) v u
    (v.isLum a = true → setGroups (.unit a) = .next (arbitrate
      (match dest with
       | .own => owned
       | .all => v))) ∧
    (v.isLum a = false → treated (setGroups (.unit a)) groups) ∧
    (code ≠ 1 → treated (other (.unit a)) (code :: extra)) ∧
    (v.harvesting = true → setGroups wide = .next (arbitrate v)) ∧
    (v.harvesting = false → ∃ u, setGroups wide = .next (arbitrate u) ∧
      State.ForwardedAs (frame wide groups) v u) ∧
    (code ≠ 1 → ∃ u, other wide = .next (arbitrate u) ∧ State.ForwardedAs (frame wide (code :: extra)) v u)

/-- A TARGET LEVEL query (R131): answered with S in SYNCED and with O and settling in PENDING and IN FLIGHT, for a GOOD luminaire; deferred in every other case. Nothing but the answer changes when it is answered. A LIGHT READING query (R132): answered from the lowest FRESH channel that names a SENSOR, with the age of its last clean reading in units of 100 ms up to 255; deferred when there is none, as any other item always is (R133). -/
def Obligations.QueriesAreAnsweredOrDeferred : Prop :=
  (∀ (after : Nat) (a : Addr) (extra : List Byte) (s : State),
     let v := trunkFrameEnd after s
     let l := v.lum a
     let replies := fun p : List Byte => exec (.queryTargetLevel after a extra) s = .next (arbitrate
       { v with answer := some ⟨⟨.reply, v.segmentByte, BitVec.ofNat 8 a.val, p⟩, v.portTime⟩ })
     (v.isLum a = true ∧ l.health = .good ∧ l.shadow = .synced → replies (bytes16 l.sent ++ [1])) ∧
     (v.isLum a = true ∧ l.health = .good ∧ (l.shadow = .pending ∨ l.shadow = .inFlight) →
       replies (bytes16 l.output ++ [3])) ∧
     (v.isLum a = false ∨ l.health = .fault ∨ l.shadow = .unknown →
       ∃ u, exec (.queryTargetLevel after a extra) s = .next (arbitrate u) ∧
         State.DeferredAs ⟨.query, v.segmentByte, BitVec.ofNat 8 a.val, 1 :: extra⟩ v u)) ∧
  (∀ (after : Nat) (a : Addr) (item : Byte) (extra : List Byte) (s : State),
     let v := trunkFrameEnd after s
     let names := fun c : ChannelId =>
       (v.channelConfig c).unit = some a ∧ (v.channel c).health = .fresh
     let frame := fun code : Byte => Frame.mk .query v.segmentByte (BitVec.ofNat 8 a.val) (code :: extra)
     (∀ c, (v.row a).role = .sensor → names c → (∀ d, names d → c ≤ d) →
       exec (.queryLightReading after a extra) s = .next (arbitrate
         { v with answer := some ⟨⟨.reply, v.segmentByte, BitVec.ofNat 8 a.val,
           bytes16 (v.channel c).reading ++
             [0, byte (min 255 ((v.channel c).lastGood.interval v.clock / 100)), 1]⟩, v.portTime⟩ })) ∧
     ((v.row a).role ≠ .sensor ∨ (∀ c, ¬ names c) →
       ∃ u, exec (.queryLightReading after a extra) s = .next (arbitrate u) ∧ State.DeferredAs (frame 8) v u) ∧
     (item ≠ 1 → item ≠ 8 →
       ∃ u, exec (.queryOtherItem after a item extra) s = .next (arbitrate u) ∧
         State.DeferredAs (frame item) v u))

/-- A tagged entry that waits at its deadline (R139) leaves the forward queue from wherever it stands, with TIMEOUT, or NO POWER while row power is ABSENT; an entry ON ROW, or before its deadline, stays. -/
def Obligations.WaitingEntryLeavesAtItsDeadline : Prop :=
  ∀ (after : Nat) (tag : Tag) (s : State),
    let v := passTime after s
    let due := fun e : FwdEntry => e.tag = some tag ∧ e.onRow = false ∧
      ∃ d, e.deadline = some d ∧ 500 ≤ min (v.clock - (d - 500)).toNat 2147483648
    ((∀ e ∈ v.forward, ¬ due e) → exec (.deferralDeadline after tag) s = .next (arbitrate v)) ∧
    (∀ before e rest, v.forward = before ++ e :: rest → (∀ x ∈ before, ¬ due x) → due e →
      exec (.deferralDeadline after tag) s = .next (arbitrate (offerDeferred
        ⟨tag, if v.power.present then .timeout else .noPower, false, [], e.unit⟩
        { v with forward := before ++ rest })))

/-! ## The row arbiter and the row port -/

/-- Which candidate the arbiter takes (R114 to R120): none when none stands; class C at a starvation count of 6; else A first; in an urgent scan C before B; else B; the first query of a scan that is not urgent after D, and after E and F while the lower-turn flag is clear; else C before D. When each class has a candidate (R115, R116, R145, R151). -/
def Obligations.ArbiterTakesTheHighestCandidate : Prop :=
  (∀ s : State,
     let yields := s.scan.urgent = false ∧ s.scan.lastQueried = none
     let st := fun k : CandidateClass => stands s k = true
     ((∀ k, ¬ st k) → chosen s = none) ∧
     (s.starvation = 6 → st .c → chosen s = some .c) ∧
     (¬ (s.starvation = 6 ∧ st .c) →
       (st .a → chosen s = some .a) ∧
       (¬ st .a → s.scan.urgent = true → st .c → chosen s = some .c) ∧
       (¬ st .a → ¬ (s.scan.urgent = true ∧ st .c) → st .b → chosen s = some .b) ∧
       (¬ st .a → ¬ st .b → st .c → ¬ yields → chosen s = some .c) ∧
       (¬ st .a → ¬ st .b → st .d → (st .c → yields) → chosen s = some .d) ∧
       (¬ st .a → ¬ st .b → ¬ st .d → st .c → yields → s.lowerTurn = true → chosen s = some .c) ∧
       (¬ st .a → ¬ st .b → ¬ st .d → st .e → (st .c → yields ∧ s.lowerTurn = false) →
         chosen s = some .e) ∧
       (¬ st .a → ¬ st .b → ¬ st .d → ¬ st .e → st .f → (st .c → yields ∧ s.lowerTurn = false) →
         chosen s = some .f) ∧
       (¬ st .a → ¬ st .b → ¬ st .d → ¬ st .e → ¬ st .f → st .c → chosen s = some .c))) ∧
  (∀ s : State,
     (stands s .a = true ↔ ∃ a ∈ s.pendingList, (s.lum a).urgent = true) ∧
     (stands s .b = true ↔ ∃ e q, s.forward = e :: q ∧ e.onRow = false) ∧
     (stands s .c = true ↔ s.scan.state = .scanning ∧ s.scan.onRow = false ∧ s.scan.next ≠ none) ∧
     (stands s .d = true ↔ s.pendingList ≠ [] ∧ ∀ a ∈ s.pendingList, (s.lum a).urgent = false) ∧
     (stands s .e = true ↔ s.power.present = true ∧
       (∀ t, s.verify.alignFail = some t → s.settings.verifyInterval ≤ t.interval s.clock) ∧
       ∃ a, s.isLum a = true ∧ (s.lum a).aligned = false ∧
         ((s.lum a).health = .good ∨ s.verify.probe = 0)) ∧
     (stands s .f = true ↔ s.power.present = true ∧
       s.settings.verifyInterval ≤ s.verify.last.interval s.clock ∧
       ∃ a, s.isLum a = true ∧ (s.lum a).shadow = .synced))

/-- A level frame (R121 to R124, R31): its head is the oldest urgent entry, or the oldest; it is a zone frame when the head's zone has at least two luminaires, all aligned and PENDING with one O and one fade, and else goes to the head alone; the entries it covers leave the list and are IN FLIGHT with S the carried level, and the others are as they were. -/
def Obligations.LevelFrameCoversItsEntries : Prop :=
  ∀ (s : State) (head : Addr),
    (∃ before rest, s.pendingList = before ++ head :: rest ∧
      (((s.lum head).urgent = true ∧ ∀ b ∈ before, (s.lum b).urgent = false) ∨
        (before = [] ∧ ∀ b ∈ s.pendingList, (s.lum b).urgent = false))) →
    s.RowMapOk →
    let l := s.lum head
    let together := fun z : ZoneId =>
      (∃ a b, a ≠ b ∧ s.isLum a = true ∧ (s.row a).zone = some z ∧ s.isLum b = true ∧ (s.row b).zone = some z) ∧
      ∀ a, s.isLum a = true → (s.row a).zone = some z →
        (s.lum a).aligned = true ∧ (s.lum a).shadow = .pending ∧ (s.lum a).output = l.output ∧
          (s.lum a).emissionFade = l.emissionFade
    ∃ (unit : Byte) (covered : List Addr),
      ((∃ z, (s.row head).zone = some z ∧ together z ∧ unit.toNat = 64 + z.val ∧
          ∀ a, a ∈ covered ↔ s.isLum a = true ∧ (s.row a).zone = some z) ∨
        ((∀ z, (s.row head).zone = some z → ¬ together z) ∧ unit.toNat = head.val ∧ covered = [head])) ∧
      covered.Pairwise (· < ·) ∧
      takeLevel s =
        { s with
          rowTx := .onRow ⟨⟨.setLevel, s.segmentByte, unit, bytes16 l.output ++ [byte l.emissionFade.val]⟩,
            .level, s.portTime⟩
          emission := some ⟨covered, l.output⟩
          lums := (takeLevel s).lums
          pendingList := s.pendingList.filter fun a => !covered.contains a } ∧
      ∀ a, (takeLevel s).lum a =
        if a ∈ covered then
          { s.lum a with shadow := .inFlight, sent := l.output, sentValid := true, urgent := false }
        else s.lum a

/-- The frames of the other classes as they start (R116, R120, R136, R37, R48, R146, R151): class B sends the queued frame as it stands and, for a SET GROUPS, clears alignment (R108); class C queries the sensor its channel names now and sets the starvation count to 0; classes E and F send the request of the first entry that qualifies from their pointer on, class F with the probe round as each wrap advances it, and set the lower-turn flag. -/
def Obligations.OtherFramesStartAsFormed : Prop :=
  ∀ s : State,
    (∀ e q, s.forward = e :: q →
      takeForward s =
        { s with
          forward := { e with onRow := true } :: q
          rowTx := .onRow ⟨e.frame, .forward, s.portTime⟩
          lums := (takeForward s).lums } ∧
      ∀ a, (takeForward s).lum a =
        if e.frame.kind = .deviceConfig ∧ e.frame.payload.head? = some 1 ∧ s.isLum a = true ∧
            (64 ≤ e.frame.unit.toNat ∨ e.frame.unit.toNat = a.val)
        then { s.lum a with aligned := false } else s.lum a) ∧
    (∀ c u, s.scan.next = some c → (s.channelConfig c).unit = some u →
      takeScan s =
        { s with
          rowTx := .onRow ⟨⟨.query, s.segmentByte, BitVec.ofNat 8 u.val, [8]⟩, .scan c, s.portTime⟩
          scan := { s.scan with next := none, lastQueried := some c, onRow := true, disregard := false }
          starvation := 0 }) ∧
    (stands s .e = true → ∃ a k : Nat, ∃ h : a < 64, k < 64 ∧ a = (s.verify.alignPointer.val + k) % 64 ∧
      alignQualifies s ⟨a, h⟩ = true ∧
      (∀ j, j < k → alignQualifies s (Fin.ofNat 64 (s.verify.alignPointer.val + j)) = false) ∧
      takeAlignment s =
        { s with
          rowTx := .onRow ⟨⟨.deviceConfig, s.segmentByte, BitVec.ofNat 8 a,
            1 :: bytes16 (match (s.row ⟨a, h⟩).zone with
              | some z => 2 ^ z.val
              | none => 0)⟩, .alignment, s.portTime⟩
          lowerTurn := true
          verify := { s.verify with
            alignPointer := Fin.ofNat 64 (a + 1)
            alignRecord := some ⟨⟨a, h⟩, (s.row ⟨a, h⟩).zone, false⟩ } }) ∧
    (stands s .f = true →
      let addr := fun k : Nat => (Fin.ofNat 64 (s.verify.pointer.val + k) : Addr)
      let round := fun k : Nat => (s.verify.probe.val + (s.verify.pointer.val + k) / 64) % 8
      let visits := fun k : Nat => s.isSynced (addr k) = true ∧
        ((s.lum (addr k)).health = .good ∨ round k = 0)
      ∃ k, visits k ∧ (∀ j, j < k → ¬ visits j) ∧
      takeVerify s =
        { s with
          rowTx := .onRow ⟨⟨.query, s.segmentByte, BitVec.ofNat 8 (addr k).val, [1]⟩, .verify, s.portTime⟩
          lowerTurn := true
          verify := { s.verify with
            pointer := addr (k + 1)
            probe := Fin.ofNat 8 (round (k + 1))
            last := ⟨s.clock, false⟩
            record := some ⟨addr k, (s.lum (addr k)).sent⟩ } })

/-- The arbiter chooses only in READY with a candidate (R117): otherwise nothing changes, and when it does, the chosen class is taken and nothing changes but the row transmitter, the row map's shadow fields, the pending list, the emission record, the forward queue, the scan controller, the starvation count, the lower-turn flag and the verification unit. What it starts for each class (R114, R120): a level frame for A and D, the forwarded frame for B, the scan query for C, the alignment request for E and the verify query for F, and before A and B the starvation count rises, to at most 6, where class C has a candidate. The row gap (R12, R113): 4 ms after the last row activity, with no foreign activity on the line, the transmitter is READY and the arbiter chooses; before that nothing but time passes. The two timer events of the verification unit only let a candidate come to stand (R145, R151), so the arbiter may choose. -/
def Obligations.ArbiterChoosesInReady : Prop :=
  (∀ s : State,
     (s.rowTx ≠ .ready ∨ chosen s = none → arbitrate s = s) ∧
     (∀ k, s.rowTx = .ready → chosen s = some k → arbitrate s = take s k) ∧
     arbitrate s =
       { s with
         rowTx := (arbitrate s).rowTx, lums := (arbitrate s).lums, pendingList := (arbitrate s).pendingList
         emission := (arbitrate s).emission, forward := (arbitrate s).forward, scan := (arbitrate s).scan
         starvation := (arbitrate s).starvation, lowerTurn := (arbitrate s).lowerTurn
         verify := (arbitrate s).verify } ∧
     (∀ a, ((arbitrate s).lum a).base = (s.lum a).base ∧ ((arbitrate s).lum a).output = (s.lum a).output ∧
       ((arbitrate s).lum a).baseFade = (s.lum a).baseFade ∧ ((arbitrate s).lum a).health = (s.lum a).health) ∧
     (∀ k, (k = .a ∨ k = .b → (take s k).starvation =
         if stands s .c = true then min 6 (s.starvation + 1) else s.starvation) ∧
       (k = .d ∨ k = .e ∨ k = .f → (take s k).starvation = s.starvation)) ∧
     (let counted :=
        if stands s .c = true then { s with starvation := min 6 (s.starvation + 1) } else s
      take s .a = takeLevel counted ∧ take s .b = takeForward counted ∧ take s .c = takeScan s ∧
      take s .d = takeLevel s ∧ take s .e = takeAlignment s ∧ take s .f = takeVerify s)) ∧
  (∀ (after : Nat) (s : State),
     let v := passTime after s
     exec (.rowGapEnd after) s = .next
       (if v.rowTx = .gap ∧ v.rowForeign = false ∧ 4000 ≤ v.portTime - v.rowActivity then
         arbitrate { v with rowTx := .ready }
       else v) ∧
     exec (.verifyIntervalExpiry after) s = .next (arbitrate v) ∧
     exec (.alignmentHoldExpiry after) s = .next (arbitrate v))

/-- A level frame that has ended (R32, R125): each covered entry still IN FLIGHT is SYNCED when its O is the carried level, and else PENDING at the list's tail with its urgency and fade; the emission record is cleared and the gap runs. -/
def Obligations.LevelFrameCompletionSettlesEntries : Prop :=
  ∀ (after : Nat) (s : State) (f : RowFrame) (m : Emission),
    let v := passTime after s
    v.rowTx = .onRow f → f.owner = .level → f.frame.kind = .setLevel → v.emission = some m → m.covered.Nodup →
    let elapsed := f.since + (3 + 8 * (4 + f.frame.payload.length)) * 208 ≤ v.portTime
    let settles := fun a => a ∈ m.covered ∧ v.isLum a = true ∧ (v.lum a).shadow = .inFlight
    (¬ elapsed → exec (.levelFrameComplete after) s = .next v) ∧
    (elapsed → ∃ t, exec (.levelFrameComplete after) s = .next t ∧
      t = { v with rowTx := .gap, rowActivity := v.portTime, emission := none
                   lums := t.lums, pendingList := t.pendingList } ∧
      t.pendingList = v.pendingList ++ m.covered.filter (fun a => v.isLum a &&
        ((v.lum a).shadow == .inFlight && (v.lum a).output != m.level)) ∧
      ∀ a,
        (settles a → (v.lum a).output = m.level → t.lum a =
          { v.lum a with shadow := .synced, sent := m.level, sentValid := true, urgent := false }) ∧
        (settles a → (v.lum a).output ≠ m.level → t.lum a =
          { v.lum a with shadow := .pending, sent := m.level, sentValid := true }) ∧
        (¬ settles a → t.lum a = v.lum a))

/-- A forwarded frame ends its turn on the row (R137, R138): one that opens no window at its end, an untagged one at the close of its window, and a tagged one at the close of its window with its DEFERRED REPLY, ANSWERED with the first nine payload bytes of a clean or noisy reply and NO ANSWER otherwise. That a frame begun at the 20 ms point itself is a reply is the model's choice, log entry 3. -/
def Obligations.ForwardedFrameEndsItsTurn : Prop :=
  ∀ (after : Nat) (w : WindowReply) (s : State) (f : RowFrame) (e : FwdEntry) (q : List FwdEntry),
    let v := passTime after s
    v.rowTx = .onRow f → f.owner = .forward → v.forward = e :: q →
    let ends := f.since + (3 + 8 * (4 + f.frame.payload.length)) * 208
    let window := (f.frame.kind = .query ∨ f.frame.kind = .deviceConfig) ∧ f.frame.unit.toNat < 64
    let closes := window ∧ ends ≤ v.portTime ∧
      (match w with
       | .silence => ends + 20000 ≤ v.portTime
       | .frame _ lasted => ends + lasted ≤ v.portTime ∧ v.portTime ≤ ends + lasted + 20000)
    let outcome := windowOutcome f.frame w
    let left := countOutcome outcome { v with forward := q, rowTx := .gap, rowActivity := v.portTime }
    (¬ window → ends ≤ v.portTime → exec (.forwardFrameComplete after) s =
      .next { v with forward := q, rowTx := .gap, rowActivity := v.portTime }) ∧
    (window ∨ v.portTime < ends → exec (.forwardFrameComplete after) s = .next v) ∧
    (closes → e.tag = none → exec (.untaggedWindowClose after w) s = .next left) ∧
    (¬ closes ∨ e.tag ≠ none → exec (.untaggedWindowClose after w) s = .next v) ∧
    (¬ closes ∨ e.tag = none → exec (.deferredQueryOutcome after w) s = .next v) ∧
    (∀ t, closes → e.tag = some t → exec (.deferredQueryOutcome after w) s = .next (offerDeferred
      (match outcome with
       | .clean p => ⟨t, .answered, false, p.take 9, e.unit⟩
       | .noisy p => ⟨t, .answered, true, p.take 9, e.unit⟩
       | _ => ⟨t, .noAnswer, false, [], e.unit⟩) left))

/-- A row reply window (R9): it opens at the end of a QUERY or DEVICE CONFIG to one unit, and closes at the end of a frame that began after the opening and within 20 ms, or at the 20 ms point when none began (that a frame begun at that point itself is a reply is the model's choice, log entry 3). Its outcome (R11, R175): silence is no reply; a REPLY that arrives whole from the unit that was asked, long enough for the request, is clean, or noisy with a noise mark; any other frame is bad: a framing error when its cells break off, its length field is above 12 or its bytes are not 4 more than that field (R5), and with a right check byte when its kind is not REPLY, the invalid codes included (R6); a check error when it is whole and its check byte wrong; and each outcome takes the counter of its fault (R22). Activity on the row that is not the part's own (R11, R21, R113): it holds the transmitter in GAP, and its end outside a window is counted as a framing error from which the gap runs; with row power ABSENT its end is not counted. That its beginning is a form of the same command is the model's choice, log entry 28, that a frame outside a window counts as a framing error whatever its check byte is log entry 13, and that activity begun in ABSENT holds GAP after the change to PRESENT is log entry 33. -/
def Obligations.WindowOutcomesAndStrays : Prop :=
  (∀ (s : State) (f : RowFrame) (rx : Reception) (lasted : Nat),
     let opens := (f.frame.kind = .query ∨ f.frame.kind = .deviceConfig) ∧ f.frame.unit.toNat < 64
     let opening := f.since + (3 + 8 * (4 + f.frame.payload.length)) * 208
     (windowCloses s f .silence = true ↔ opens ∧ opening + 20000 ≤ s.portTime) ∧
     (windowCloses s f (.frame rx lasted) = true ↔
       opens ∧ opening + lasted ≤ s.portTime ∧ s.portTime ≤ opening + 20000 + lasted)) ∧
  (∀ (request reply : Frame) (noise : Bool) (rx : Reception) (lasted : Nat) (s : State),
     let required := match request.kind with
       | .deviceConfig => 1
       | .query => if request.payload.head? = some 1 then 2 else if request.payload.head? = some 8 then 3 else 0
       | _ => 0
     windowOutcome request .silence = .noReply ∧
     (reply.payload.length ≤ 12 →
       windowOutcome request (.frame ⟨reply.bytes, false, noise⟩ lasted) =
         if reply.kind = .reply ∧ reply.unit = request.unit ∧ required ≤ reply.payload.length then
           (if noise then .noisy reply.payload else .clean reply.payload)
         else .badFraming) ∧
     (checkFrame rx = .framing → windowOutcome request (.frame rx lasted) = .badFraming) ∧
     (checkFrame rx = .check → windowOutcome request (.frame rx lasted) = .badCheck) ∧
     (∀ p, countOutcome (.noisy p) s = { s with
       counters := { s.counters with noisy := min (s.counters.noisy + 1) 255 } }) ∧
     countOutcome .badFraming s = { s with
       counters := { s.counters with rowFraming := min (s.counters.rowFraming + 1) 255 } } ∧
     countOutcome .badCheck s = { s with
       counters := { s.counters with rowCheck := min (s.counters.rowCheck + 1) 255 } } ∧
     (∀ p, countOutcome (.clean p) s = s) ∧ countOutcome .noReply s = s) ∧
  (∀ (request : Frame) (h segment unit c : Byte) (payload few : List Byte) (broken noise : Bool)
     (lasted : Nat),
     let whole := broken = false ∧ h.toNat % 16 ≤ 12 ∧ payload.length = h.toNat % 16
     let check := crc8 (h :: segment :: unit :: payload)
     let outcome :=
       windowOutcome request (.frame ⟨h :: segment :: unit :: payload ++ [c], broken, noise⟩ lasted)
     (few.length < 4 → windowOutcome request (.frame ⟨few, broken, noise⟩ lasted) = .badFraming) ∧
     (¬ whole → outcome = .badFraming) ∧
     (whole → c ≠ check → outcome = .badCheck) ∧
     (whole → c = check → h.toNat / 16 ≠ 3 → outcome = .badFraming)) ∧
  (∀ (after : Nat) (s : State),
     let v := passTime after s
     let counted := { v with
       rowForeign := false, rowActivity := v.portTime
       counters := { v.counters with rowFraming := min (v.counters.rowFraming + 1) 255 } }
     (v.rowTx = .powerless →
       exec (.rowStrayFrame after false) s = .next { v with rowForeign := true } ∧
       exec (.rowStrayFrame after true) s = .next { v with rowForeign := false }) ∧
     (v.rowTx = .gap ∨ v.rowTx = .ready →
       exec (.rowStrayFrame after false) s = .next { v with rowForeign := true, rowTx := .gap } ∧
       exec (.rowStrayFrame after true) s = .next { counted with rowTx := .gap }) ∧
     (∀ f, v.rowTx = .onRow f →
       let awaiting := f.frame.opensWindow = true ∧ f.since + f.frame.time ≤ v.portTime
       (¬ awaiting → exec (.rowStrayFrame after false) s = .next { v with rowForeign := true } ∧
         exec (.rowStrayFrame after true) s = .next counted) ∧
       (awaiting → exec (.rowStrayFrame after false) s = .next v ∧
         exec (.rowStrayFrame after true) s = .next (if v.rowForeign then counted else v))))

/-! ## Verification and alignment -/

/-- The close of a verify query's window (R33, R147 to R149): the record is emptied and the gap runs; a clean reply with the recorded S clears both counts and makes a FAULT entry GOOD; another clean reply is a mismatch, which makes the entry PENDING with S invalid; a bad frame or silence is a miss; a count that reaches 3 makes a GOOD entry FAULT; a noisy reply and an outcome that no longer applies change nothing of the entry. That a mismatch sets the miss count to 0 also of a FAULT entry with miss count 3, where R148 and R149 conflict, is the model's reading, log entry 31. -/
def Obligations.VerifyOutcomeSettlesHealth : Prop :=
  ∀ (after : Nat) (w : WindowReply) (s : State) (f : RowFrame) (r : VerifyRecord),
    let v := passTime after s
    v.rowTx = .onRow f → f.owner = .verify → v.verify.record = some r → windowCloses v f w = true →
    let l := v.lum r.addr
    let outcome := windowOutcome f.frame w
    let closed := countOutcome outcome { v with
      rowTx := .gap, rowActivity := v.portTime, verify := { v.verify with record := none } }
    let applies := v.isLum r.addr = true ∧ l.shadow = .synced ∧ l.sentValid = true ∧ l.sent = r.level
    let answers := fun t => exec (.verifyOutcome after w) s = .next t
    let mismatched : Lum := { l with
      mismatches := min 3 (l.mismatches + 1), misses := 0
      shadow := .pending, sentValid := false, urgent := false
      emissionFade := match (v.row r.addr).zone with
        | some z => (v.zoneConfig z).trimFade
        | none => l.baseFade }
    let missed : Lum := { l with misses := min 3 (l.misses + 1) }
    let faulty := fun (m : Lum) (count : Nat) => decide (m.health = .good ∧ 3 ≤ count)
    let put := fun (m : Lum) => { closed.setLum r.addr m with
      pendingList := if m.shadow = .pending then closed.pendingList ++ [r.addr] else closed.pendingList }
    (¬ applies → answers closed) ∧
    (applies → ∀ p, outcome = .clean p →
      (payload16 p 0 = r.level → answers
        (if l.health = .fault then
          raise (.luminaireRecovered r.addr r.level)
            (put { l with mismatches := 0, misses := 0, health := .good })
        else put { l with mismatches := 0, misses := 0 })) ∧
      (payload16 p 0 ≠ r.level → answers
        (if faulty mismatched mismatched.mismatches = true then
          raise (.luminaireFault r.addr .mismatch r.level) (put { mismatched with health := .fault })
        else put mismatched))) ∧
    (applies → ∀ p, outcome = .noisy p → answers closed) ∧
    (applies → outcome = .noReply ∨ outcome = .badFraming ∨ outcome = .badCheck → answers
      (if faulty missed missed.misses = true then
        raise (.luminaireFault r.addr .miss r.level) (put { missed with health := .fault })
      else put missed))

/-- The close of an alignment request's window (R37, R152): a clean reply whose first byte is DONE aligns an entry that is still the LUMINAIRE of the recorded zone and ends the failure hold; any other outcome for it starts the hold; an outcome to be disregarded changes neither. That the zone at the close decides, also where the zone was changed and changed back, is the model's reading, log entry 18. -/
def Obligations.AlignmentOutcomeSetsAligned : Prop :=
  ∀ (after : Nat) (w : WindowReply) (s : State) (f : RowFrame) (r : AlignRecord),
    let v := passTime after s
    v.rowTx = .onRow f → f.owner = .alignment → v.verify.alignRecord = some r → windowCloses v f w = true →
    let outcome := windowOutcome f.frame w
    let closed := countOutcome outcome { v with
      rowTx := .gap, rowActivity := v.portTime, verify := { v.verify with alignRecord := none } }
    let stillThere := r.disregard = false ∧ v.isLum r.addr = true ∧ (v.row r.addr).zone = r.zone
    let done := ∃ rest, outcome = .clean (0 :: rest)
    (stillThere → done → exec (.alignmentOutcome after w) s = .next
      { closed.setLum r.addr { v.lum r.addr with aligned := true } with
        verify := { closed.verify with alignFail := none } }) ∧
    (stillThere → ¬ done → exec (.alignmentOutcome after w) s = .next
      { closed with verify := { closed.verify with alignFail := some ⟨v.clock, false⟩ } }) ∧
    (¬ stillThere → exec (.alignmentOutcome after w) s = .next closed)

/-! ## Channels and the scan -/

/-- A query's outcome for its channel (R57): the saturated lux of a clean or noisy reply, and a miss for a sensor fault, a bad frame or silence. The channel's health ladder (R58 to R60): what a clean reply, a noisy reply and a miss make of a channel in each health, with the recover and stale limits of the settings. The sky transient (R61): a value of the sky channel whose health was FRESH or SUSPECT, and whose change from the reading held, in permille of that reading or of 50, reaches the threshold. -/
def Obligations.ChannelOutcomes : Prop :=
  (∀ p : List Byte,
     let lux := min 20000 ((p.getD 0 0).toNat * 256 + (p.getD 1 0).toNat)
     let fault := (p.getD 2 0).toNat % 2 = 1
     (channelOutcome (.clean p) = if fault then .miss else .clean lux) ∧
     (channelOutcome (.noisy p) = if fault then .miss else .noisy lux) ∧
     channelOutcome .badFraming = .miss ∧ channelOutcome .badCheck = .miss ∧
     channelOutcome .noReply = .miss) ∧
  (∀ (s : State) (v : ChannelStatus) (x : Nat),
     let good := { v with reading := x, lastGood := ⟨s.clock, false⟩ }
     let misses := min 15 (v.missCount + 1)
     (v.health = .unseen → channelAfter s (.clean x) v =
       { good with health := .fresh, missCount := 0, recoveryCount := 0 }) ∧
     (v.health = .fresh ∨ v.health = .suspect → channelAfter s (.clean x) v =
       { good with health := .fresh, missCount := 0 }) ∧
     (v.health = .stale → channelAfter s (.clean x) v =
       if s.settings.recoverLimit ≤ v.recoveryCount + 1 then
         { good with health := .fresh, missCount := 0, recoveryCount := 0 }
       else { good with recoveryCount := v.recoveryCount + 1 }) ∧
     channelAfter s (.noisy x) v = { v with reading := x } ∧
     (v.health = .stale → channelAfter s .miss v = { v with missCount := misses, recoveryCount := 0 }) ∧
     (v.health ≠ .stale → channelAfter s .miss v =
       if s.settings.staleLimit ≤ misses then
         { v with missCount := misses, health := .stale, recoveryCount := 0 }
       else { v with missCount := misses, health := if v.health = .unseen then .unseen else .suspect })) ∧
  (∀ (s : State) (c : ChannelId) (before : ChannelStatus) (new : Nat),
     let old := before.reading
     let change := (if old ≤ new then new - old else old - new) * 1000 / (if old ≤ 50 then 50 else old)
     transientOf s c before new =
       (if s.settings.sky = some c ∧ (before.health = .fresh ∨ before.health = .suspect) ∧
           s.settings.threshold ≤ change
         then some (.skyTransient c old new) else none) ∧
     transientEvent s c (.clean new) before = transientOf s c before new ∧
     transientEvent s c (.noisy new) before = transientOf s c before new ∧
     transientEvent s c .miss before = none)

/-- The close of a scan query's window (R49, R55, R57 to R61): the gap runs, the outcome is recorded in its channel and SENSOR STALE or SENSOR RECOVERED, then SKY TRANSIENT, are raised, unless it is to be disregarded (R44). In SCANNING the next channel above that names a sensor is offered; after the last one the scan completes. In STOPPING the scan is abandoned without a pass, and a scan that is not urgent starts if rescan is pending in a mode other than OFF (that the mark is kept into STOPPING is log entry 17). -/
def Obligations.ScanQueryOutcomeAdvancesTheScan : Prop :=
  ∀ (after : Nat) (w : WindowReply) (s : State) (f : RowFrame) (c : ChannelId),
    let v := passTime after s
    v.rowTx = .onRow f → f.owner = .scan c → v.scan.lastQueried = some c →
    v.scan.state = .scanning ∨ v.scan.state = .stopping → windowCloses v f w = true →
    let outcome := windowOutcome f.frame w
    let o := channelOutcome outcome
    let before := v.channel c
    let settled := channelAfter v o before
    let unit := (v.channelConfig c).unit
    let health : List Event :=
      if before.health = .stale ∧ settled.health = .fresh then [.sensorRecovered c unit]
      else if before.health ≠ .stale ∧ settled.health = .stale then [.sensorStale c unit]
      else []
    let closed := countOutcome outcome { v with rowTx := .gap, rowActivity := v.portTime }
    let recorded :=
      if v.scan.disregard then closed
      else (health ++ (transientEvent v c o before).toList).foldl raiseInScan
        { closed with channels := v.channels.set c.val settled }
    let remains := fun d : ChannelId =>
      c < d ∧ v.scan.first ≤ d ∧ d ≤ v.scan.last ∧ (v.channelConfig d).unit ≠ none
    let offers := fun next : Option ChannelId =>
      { recorded with scan := { recorded.scan with next := next, onRow := false, disregard := false } }
    let answers := fun t => exec (.scanQueryOutcome after w) s = .next t
    (v.scan.state = .scanning →
      (∀ d, remains d → (∀ e, remains e → d ≤ e) → answers (offers (some d))) ∧
      ((∀ d, ¬ remains d) → answers (finishScan (offers none)) ∧
        ∀ z, (v.zone z).mode ≠ .unbound →
          ((finishScan (offers none)).zone z).lastPass = ⟨v.clock, false⟩)) ∧
    (v.scan.state = .stopping →
      let idle := { recorded with scan := { recorded.scan with
        state := .idle, next := none, onRow := false, disregard := false, urgent := false
        pending := false, pendingUrgent := false } }
      answers (if v.scan.pending = true ∧ v.settings.mode ≠ .off then startScan false idle else idle) ∧
      idle.zones = v.zones ∧ idle.lums = v.lums)

/-- How a trigger is taken (R51, R54): without effect in scan mode OFF and in STOPPING and SUSPENDED; in SCANNING it sets rescan pending, with the urgent mark of an urgent one; in IDLE it starts a scan. How a scan starts (R47, R119): over the range of the settings, capturing the clock and clearing the lower-turn flag, at the lowest channel of the range that names a sensor; without such a channel it completes at its start. How a scan completes (R49, R53, R54): the compute pass runs, the controller is IDLE, and a pending rescan starts with its urgent mark, or in CONTINUOUS another scan if this one queried a channel. An event handed to the management unit (R171): a NOTICE with its kind, subject, data, time and route priority when that is above 0, and, when the route has rescan set, an urgent trigger, which within a scan in progress sets rescan pending. -/
def Obligations.TriggersAndEventsAreTaken : Prop :=
  (∀ (urgent : Bool) (s : State),
     let on := s.settings.mode ≠ .off
     (¬ on ∨ s.scan.state = .stopping ∨ s.scan.state = .suspended → trigger urgent s = s) ∧
     (on → s.scan.state = .scanning → trigger urgent s =
       { s with scan := { s.scan with
         pending := true, pendingUrgent := s.scan.pendingUrgent || urgent } }) ∧
     (on → s.scan.state = .idle → trigger urgent s = startScan urgent s)) ∧
  (∀ (urgent : Bool) (s : State),
     let names := fun c : ChannelId =>
       s.settings.first ≤ c ∧ c ≤ s.settings.last ∧ (s.channelConfig c).unit ≠ none
     let opened := fun next : Option ChannelId =>
       { s with
         scan := ⟨.scanning, s.settings.first, s.settings.last, next, none, false, false,
           ⟨s.clock, false⟩, urgent, s.scan.pending, s.scan.pendingUrgent, false, false⟩
         lowerTurn := false }
     (∀ c, names c → (∀ d, names d → c ≤ d) → startScan urgent s = opened (some c)) ∧
     ((∀ c, ¬ names c) →
       startScan urgent s = finishScan (opened none) ∧ (startScan urgent s).scan.state = .idle ∧
       ∀ z, (s.zone z).mode ≠ .unbound → ((startScan urgent s).zone z).lastPass = ⟨s.clock, false⟩)) ∧
  (∀ s : State,
     let passed := computePass s
     let done := fun pending pendingUrgent : Bool =>
       { passed with scan := { passed.scan with
         state := .idle, next := none, onRow := false, disregard := false, urgent := false
         emptyDone := s.scan.lastQueried.isNone, pending := pending, pendingUrgent := pendingUrgent } }
     finishScan s =
       if passed.scan.pending = true then startScan passed.scan.pendingUrgent (done false false)
       else if s.settings.mode = .continuous ∧ s.scan.lastQueried ≠ none then
         startScan false (done false passed.scan.pendingUrgent)
       else done false passed.scan.pendingUrgent) ∧
  (∀ (e : Event) (s : State),
     let r := s.tables.routes[e.kind.val]
     let noticed := if r.priority = 0 then s else offerNotice ⟨e, s.clock, r.priority⟩ s
     (raise e s = if r.rescan then trigger true noticed else noticed) ∧
     (raiseInScan s e =
       if r.rescan = true ∧ s.scan.state = .scanning ∧ s.settings.mode ≠ .off then
         { noticed with scan := { s.scan with pending := true, pendingUrgent := true } }
       else noticed))

/-- The commands that trigger scans (R52, R53, R160): the periodic tick when the period has elapsed since the most recent start, once; the continuous restart of a scan that queried nothing when the period has elapsed; and TRIGGER SCAN, refused in scan mode OFF and otherwise answered with the scan state after it. That the tick occurs once for each scan start is the model's reading, log entry 20. -/
def Obligations.ScanTriggersComeWhenDue : Prop :=
  ∀ (after : Nat) (req : Request) (s : State),
    let v := passTime after s
    let u := trunkFrameEnd after s
    let elapsed := v.settings.period ≤ v.scan.start.interval v.clock
    exec (.periodicTick after) s = .next (arbitrate
      (if v.settings.mode = .periodic ∧ v.scan.state ≠ .suspended ∧ v.scan.tickTaken = false ∧ elapsed then
        trigger false { v with scan := { v.scan with tickTaken := true } }
      else v)) ∧
    exec (.continuousRestart after) s = .next (arbitrate
      (if v.settings.mode = .continuous ∧ v.scan.state = .idle ∧ v.scan.emptyDone = true ∧ elapsed then
        trigger false v
      else v)) ∧
    (u.settings.mode = .off → exec (.triggerScan after req) s = .next (arbitrate
      (respond req (⟨.refused, false, []⟩, u)))) ∧
    (u.settings.mode ≠ .off → exec (.triggerScan after req) s = .next (arbitrate
      (respond req (⟨.ok, false, scanBytes (trigger false u).scan⟩, trigger false u))))

/-! ## Row power -/

/-- The row power monitor's measurement (R20): a crossing of the threshold starts it afresh, and its command changes nothing else. Row power becomes PRESENT after 200 ms above the threshold (R20, R21, R34, R56, R154), and not before: the gap runs from then, every luminaire is PENDING in ascending order and not urgent, the forward queue is kept, and a scan has started unless the scan mode is OFF; then ROW POWER RESTORED is raised. That the event comes after the blocks' actions is log entry 16, and that the row map acts before the scan controller log entry 30; that activity of another party in progress on the row stays known is log entry 33. -/
def Obligations.PowerReturnActsAfterItsMeasurement : Prop :=
  (∀ (after : Nat) (above : Bool) (s : State),
     let v := passTime after s
     exec (.rowSenseChange after above) s = .next
       (if v.power.above = above then v
        else { v with power := ⟨v.power.present, above, v.portTime⟩ })) ∧
  (∀ (after : Nat) (s : State),
     let v := passTime after s
     let due := v.power.present = false ∧ v.power.above = true ∧ 200000 ≤ v.portTime - v.power.since
     (¬ due → exec (.rowPowerPresent after) s = .next v) ∧
     (due → ∃ t, exec (.rowPowerPresent after) s = .next t ∧
       t = raise .rowPowerRestored (trigger false { v with
         power := ⟨true, true, v.power.since⟩, rowTx := .gap, rowActivity := v.portTime
         lums := Vector.ofFn fun a : Addr => if v.isLum a = true then
             { v.lum a with
               shadow := .pending, sentValid := false, urgent := false
               emissionFade := (v.lum a).baseFade }
           else v.lum a
         pendingList := v.luminaires
         scan := { v.scan with
           state := .idle, next := none, onRow := false, disregard := false, urgent := false } }) ∧
       t.power = ⟨true, true, v.power.since⟩ ∧ t.rowTx = .gap ∧ t.rowActivity = v.portTime ∧
       t.forward = v.forward ∧ t.pendingList = v.luminaires ∧
       (∀ a, v.isLum a = true →
         (t.lum a).shadow = .pending ∧ (t.lum a).urgent = false ∧ (t.lum a).sentValid = false ∧
         (t.lum a).base = (v.lum a).base ∧ (t.lum a).aligned = (v.lum a).aligned ∧
         (t.lum a).health = (v.lum a).health) ∧
       (∀ a, v.isLum a = false → t.lum a = v.lum a) ∧
       t.scan.state ≠ .suspended ∧
       (v.settings.mode ≠ .off → t.scan.start = ⟨v.clock, false⟩ ∧ t.lowerTurn = false) ∧
       (∀ c, v.settings.first ≤ c → c ≤ v.settings.last → (v.channelConfig c).unit ≠ none →
         v.settings.mode ≠ .off →
         t.scan.state = .scanning ∧ t.scan.urgent = false ∧ t.scan.lastQueried = none ∧
         (∀ a, v.isLum a = true → (t.lum a).emissionFade = (v.lum a).baseFade)) ∧
       t.tables = v.tables ∧ t.channels = v.channels ∧ t.verify = v.verify ∧ t.counters = v.counters))

/-- Row power becomes ABSENT after 20 ms below the threshold (R20, R34, R56, R126, R129, R140, R153), and not before: every luminaire is UNKNOWN with S invalid, the pending list, the forward queue and the emission record are empty, the scan is SUSPENDED, the windows are closed without outcome, each dropped untagged entry is counted, and the rest of the row map, the tables, zones, channels, pointers and the trunk transmitter are kept. The DEFERRED REPLY frames of a loss of row power (R140): each tagged entry, from head to tail, is offered to the upstream queue with NO POWER before ROW POWER LOST is raised, an order that is log entry 16; the upstream queue and the marker of lost notices are what these offers leave, in this order, and nothing else changes. That activity of another party in progress on the row stays known is log entry 33. -/
def Obligations.PowerLossActsAfterItsMeasurement : Prop :=
  (∀ (after : Nat) (s : State),
     let v := passTime after s
     let due := v.power.present = true ∧ v.power.above = false ∧ 20000 ≤ v.portTime - v.power.since
     (¬ due → exec (.rowPowerAbsent after) s = .next v) ∧
     (due → ∃ t drops, exec (.rowPowerAbsent after) s = .next t ∧
       drops = (v.forward.filter fun e => e.tag.isNone).length ∧
       t.power = ⟨false, false, v.power.since⟩ ∧ t.rowTx = .powerless ∧ t.rowForeign = v.rowForeign ∧
       t.emission = none ∧ t.starvation = 0 ∧ t.lowerTurn = v.lowerTurn ∧
       t.pendingList = [] ∧
       (∀ a, t.lum a = if v.isLum a = true
         then { v.lum a with shadow := .unknown, sentValid := false, urgent := false } else v.lum a) ∧
       t.scan.state = .suspended ∧ t.scan.next = none ∧ t.scan.onRow = false ∧ t.scan.urgent = false ∧
       t.scan.pending = false ∧ t.scan.pendingUrgent = false ∧ t.scan.start = v.scan.start ∧
       t.forward = [] ∧ t.tagsInUse = v.tagsInUse ∧ t.lastTag = v.lastTag ∧
       t.counters = { v.counters with
         forwardDrops := if drops = 0 then v.counters.forwardDrops
           else min (v.counters.forwardDrops + drops) 255 } ∧
       t.verify = { v.verify with record := none, alignRecord := none } ∧
       t.tables = v.tables ∧ t.zones = v.zones ∧ t.channels = v.channels ∧ t.trunkTx = v.trunkTx ∧
       t.answer = v.answer ∧ t.store = v.store ∧ t.snapshot = v.snapshot ∧
       t = { v with
         power := ⟨false, false, v.power.since⟩, rowTx := .powerless, rowActivity := v.portTime
         emission := none, starvation := 0, lums := t.lums, pendingList := []
         scan := { v.scan with
           state := .suspended, next := none, onRow := false, disregard := false, urgent := false
           pending := false, pendingUrgent := false }
         forward := [], counters := t.counters
         verify := { v.verify with record := none, alignRecord := none }
         upstream := t.upstream, noticesLost := t.noticesLost, lostSinceStart := t.lostSinceStart })) ∧
  (∀ (after : Nat) (s : State),
     let v := passTime after s
     v.power.present = true → v.power.above = false → 20000 ≤ v.portTime - v.power.since →
     let replied := v.forward.foldl (fun (x : State) e => match e.tag with
       | some g => offerDeferred ⟨g, .noPower, false, [], e.unit⟩ x
       | none => x) v
     ∃ t, exec (.rowPowerAbsent after) s = .next t ∧
       ∃ w : State, w.tables = v.tables ∧ w.clock = v.clock ∧ w.scan.state = .suspended ∧
         w.upstream = replied.upstream ∧ w.noticesLost = replied.noticesLost ∧
         w.lostSinceStart = replied.lostSinceStart ∧
         t.upstream = (raise .rowPowerLost w).upstream ∧
         t.noticesLost = (raise .rowPowerLost w).noticesLost ∧
         t.lostSinceStart = (raise .rowPowerLost w).lostSinceStart)

/-! ## Management -/

/-- How a MANAGE operation is answered (R155): the RESPONSE of the status, the fresh-capture flag and the request number modulo 16 is handed to the trunk transmitter, and nothing is for segment 255. RESTART and unknown operations (R156, R169): a RESTART schedules the warm restart for the end of its answer, or at once when none is sent, and is REFUSED during a store write; an unknown operation changes nothing. The store (R165 to R167): COMMIT captures tables 1 to 7 with their CRC and the clock, and is answered BUSY while a write is in progress; 600 ms later the write ends DONE when the store holds the captured image and FAILED otherwise, and STORE RESULT is raised; before that the write goes on. An image passes its check when its CRC-16, with generator x^16 + x^12 + x^5 + 1 and initial value 0xFFFF, is that of tables 1 to 7 and every field is in its range (R165). That RESTART only schedules the restart, for segment 255 too, is the model's choice, log entry 10, and the order in which the CRC-16 runs, over tables and entries in ascending order as they are read and each byte most significant bit first, is presumed, log entry 7. -/
def Obligations.ManagementAnswersRestartAndStore : Prop :=
  ((∀ (req : Request) (st : Status) (fresh : Bool) (data : List Byte) (s : State),
      respond req (⟨st, fresh, data⟩, s) =
        match req.dest with
        | .own => { s with answer := some ⟨⟨.response, s.segmentByte, 126,
            BitVec.ofNat 8 (statusCode st + (if fresh then 8 else 0) + req.number.toNat % 16 * 16) :: data⟩,
            s.portTime⟩ }
        | .all => s) ∧
   (statusCode .ok = 0 ∧ statusCode .accepted = 1 ∧ statusCode .deferred = 2 ∧ statusCode .busy = 3 ∧
    statusCode .range = 4 ∧ statusCode .refused = 5 ∧ statusCode .owned = 6 ∧
    statusCode .unknownOperation = 7) ∧
   (∀ (after : Nat) (req : Request) (op : Byte) (s : State),
      let v := trunkFrameEnd after s
      exec (.unknownOperation after req op) s = .next (respond req (⟨.unknownOperation, false, []⟩, v)) ∧
      (v.store.writing ≠ none → exec (.restart after req) s = .next (respond req (⟨.refused, false, []⟩, v))) ∧
      (v.store.writing = none → exec (.restart after req) s = .next (respond req (⟨.ok, false, []⟩,
        { v with restart := match req.dest with
            | .own => .afterAnswer
            | .all => .due }))))) ∧
  (∀ (after : Nat) (req : Request) (found : ReadBack) (s : State),
     let v := trunkFrameEnd after s
     let u := passTime after s
     (v.store.writing ≠ none → exec (.commit after req) s = .next (respond req (⟨.busy, false, []⟩, v))) ∧
     (v.store.writing = none → exec (.commit after req) s = .next (respond req (⟨.accepted, false, []⟩,
       { v with store := { v.store with
         writing := some ⟨⟨v.tables, crc16 v.tables.bytes⟩, ⟨v.clock, false⟩⟩ } }))) ∧
     (u.store.writing = none → exec (.storeWriteEnd after found) s = .next (arbitrate u)) ∧
     (∀ w, u.store.writing = some w →
       let held := match found with
         | .captured => w.image
         | .other i => i
       let result : StoreResult := if held = w.image then .done else .failed
       (w.start.interval u.clock < 600 → exec (.storeWriteEnd after found) s = .next (arbitrate u)) ∧
       (600 ≤ w.start.interval u.clock → exec (.storeWriteEnd after found) s = .next (arbitrate
         (raise (.storeResult result) { u with store := ⟨some held, none, result⟩ }))))) ∧
  (∀ i : StoreImage, i.passes = true ↔ i.crc = crc16 i.tables.bytes ∧ i.tables.inRange = true) ∧
  (crc16 [] = 0xFFFF ∧
   ∀ (bs : List Byte) (b : Byte),
     crc16 (bs ++ [b]) =
       (List.range 8).foldl (fun (r : BitVec 16) _ => if r.msb then (r <<< 1) ^^^ 0x1021 else r <<< 1)
         (crc16 bs ^^^ (b.zeroExtend 16 <<< 8))) ∧
  (∀ s : State, s.tables.bytes =
     ([(1, 64), (2, 16), (3, 8), (4, 16), (5, 16), (6, 11), (7, 1)] : List (Nat × Nat)).flatMap fun x =>
       (List.range x.2).flatMap fun i => (readEntry s x.1 i).getD []) ∧
  ∀ s : State, s.tables.inRange = true ↔
    (∀ a, 1 ≤ (s.row a).pmin ∧ (s.row a).pmin ≤ 250) ∧
    (∀ z, let c := s.zoneConfig z
      c.target ≤ 2000 ∧ 1 ≤ c.slewUp ∧ c.slewUp ≤ 1000 ∧ 1 ≤ c.slewDown ∧ c.slewDown ≤ 1000 ∧
        c.deadBand ≤ 100 ∧ c.offDwell ≤ 3600) ∧
    (∀ c, (s.channelConfig c).k ≤ 4095) ∧
    (∀ z c, s.coeff z c ≤ 4095) ∧
    (∀ k : Fin 11, s.tables.routes[k.val].priority ≤ 7) ∧
    (let c := s.settings
     c.first ≤ c.last ∧ 250 ≤ c.period ∧ c.period ≤ 60000 ∧ 50 ≤ c.threshold ∧ c.threshold ≤ 1000 ∧
       1 ≤ c.staleLimit ∧ c.staleLimit ≤ 15 ∧ 1 ≤ c.recoverLimit ∧ c.recoverLimit ≤ 15 ∧
       200 ≤ c.verifyInterval ∧ c.verifyInterval ≤ 60000)

/-- READ ENTRY and READ STATUS (R155, R161 to R164): part 0 captures the entry or the status and answers its first part; part 1 is served from a capture of the same entry, or from a fresh one with the flag set that leaves the buffer; READ STATUS part 1 answers and resets the counters; and to segment 255 nothing happens. That the part 0 rows answer RANGE to every other part byte, part 1 included, is the model's choice, log entries 15 and 26. What these captures are (11, Table entries; R163): the bytes of every entry of tables 1 to 10 field by field, and none for another table or index; and the bytes of the status capture. Values of two and four bytes have their most significant byte first (R174). -/
def Obligations.ReadsUseTheSnapshotBuffer : Prop :=
  (∀ (after : Nat) (number table index part : Byte) (s : State),
    let v := trunkFrameEnd after s
    let own : Request := ⟨.own, number⟩
    let every : Request := ⟨.all, number⟩
    let range : Reply := ⟨.range, false, []⟩
    let first := fun bytes : List Byte =>
      if table = 4 then bytes.take 8 else if table = 8 then bytes.take 6 else bytes.take 10
    let second := fun bytes : List Byte => if table = 4 then bytes.drop 8 else bytes.drop 6
    let entry := readEntry v table.toNat index.toNat
    let captured := fun bytes => v.snapshot = some (.entry table.toNat index.toNat bytes)
    let status := statusBytes v
    exec (.readEntryPart0 after every table index part) s = .next v ∧
    exec (.readEntryPart1 after every table index) s = .next v ∧
    exec (.readStatusPart0 after every part) s = .next v ∧
    exec (.readStatusPart1 after every) s = .next v ∧
    (entry = none ∨ part ≠ 0 →
      exec (.readEntryPart0 after own table index part) s = .next (respond own (range, v))) ∧
    (∀ bytes, entry = some bytes → part = 0 →
      exec (.readEntryPart0 after own table index part) s = .next (respond own
        (⟨.ok, false, first bytes⟩,
          { v with snapshot := some (.entry table.toNat index.toNat bytes) }))) ∧
    (entry = none ∨ (table ≠ 4 ∧ table ≠ 8) →
      exec (.readEntryPart1 after own table index) s = .next (respond own (range, v))) ∧
    (∀ bytes, entry = some bytes → table = 4 ∨ table = 8 →
      (∀ held, captured held → exec (.readEntryPart1 after own table index) s =
        .next (respond own (⟨.ok, false, second held⟩, v))) ∧
      ((∀ held, ¬ captured held) → exec (.readEntryPart1 after own table index) s =
        .next (respond own (⟨.ok, true, second bytes⟩, v)))) ∧
    (part ≠ 0 → exec (.readStatusPart0 after own part) s = .next (respond own (range, v))) ∧
    (part = 0 → exec (.readStatusPart0 after own part) s = .next (respond own
      (⟨.ok, false, status⟩, { v with snapshot := some (.status status) }))) ∧
    exec (.readStatusPart1 after own) s = .next (respond own
      (⟨.ok, (match v.snapshot with
        | some (.status _) => false
        | _ => true),
        [byte v.counters.trunkFraming, byte v.counters.trunkCheck, byte v.counters.arbitration,
          byte v.counters.rowFraming, byte v.counters.rowCheck, byte v.counters.noisy,
          byte v.counters.forwardDrops] ++ bytes32 v.clock.toNat⟩,
        { v with counters := ⟨0, 0, 0, 0, 0, 0, 0⟩ }))) ∧
  (∀ s : State,
     let weight := fun (flag : Bool) (n : Nat) => if flag then n else 0
     let pair := fun x y : Nat => [byte (x / 16), byte (x % 16 * 16 + y / 256), byte y]
     (∀ n : Nat, bytes16 n = [byte (n / 256), byte n] ∧
       bytes32 n = [byte (n / 16777216), byte (n / 65536), byte (n / 256), byte n]) ∧
     let zone := fun x : Option ZoneId => match x with
       | some z => z.val
       | none => 255
     let unit := fun x : Option Addr => match x with
       | some a => a.val
       | none => 255
     (∀ a : Addr,
       let r := s.row a
       let l := s.lum a
       readEntry s 1 a.val = some [byte (match r.role with
         | .absent => 0
         | .luminaire => 1
         | .sensor => 2), byte (zone r.zone), byte r.pmin] ∧
       readEntry s 10 a.val = some
         (bytes16 l.base ++ [byte (l.baseFade.val * 16 + l.emissionFade.val)] ++ bytes16 l.output ++
           [byte (match l.shadow with
             | .unknown => 0
             | .synced => 1
             | .pending => 2
             | .inFlight => 3)] ++ bytes16 l.sent ++
           [byte (weight l.sentValid 1 + weight l.urgent 2 + weight l.aligned 4 +
              weight (l.health == .fault) 8),
            byte (l.mismatches * 16 + l.misses)])) ∧
     (∀ z : ZoneId,
       let c := s.zoneConfig z
       let v := s.zone z
       readEntry s 2 z.val = some
         ([byte (weight c.inUse 128 + weight c.switchOff 64 + c.trimFade.val), byte c.deadBand] ++
           pair c.target c.slewUp ++ pair c.slewDown c.offDwell) ∧
       readEntry s 4 z.val = some
         (bytes16 (s.coeff z 0) ++ bytes16 (s.coeff z 1) ++ bytes16 (s.coeff z 2) ++ bytes16 (s.coeff z 3) ++
           bytes16 (s.coeff z 4) ++ bytes16 (s.coeff z 5) ++ bytes16 (s.coeff z 6) ++ bytes16 (s.coeff z 7)) ∧
       readEntry s 8 z.val = some
         ([byte (match v.mode with
             | .unbound => 0
             | .track => 1
             | .hold => 2
             | .manual => 3
             | .failsafe => 4),
           byte (weight v.blind 1 + weight v.degraded 2 + weight v.zeroSince.isSome 4)] ++
           bytes16 v.ratio ++ bytes16 v.estimate ++ bytes32 v.lastPass.time.toNat ++
           bytes32 (match v.zeroSince with
             | some t => t.time.toNat
             | none => 0))) ∧
     (∀ c : ChannelId,
       let r := s.channelConfig c
       let v := s.channel c
       readEntry s 3 c.val = some (byte (unit r.unit) :: bytes16 r.k) ∧
       readEntry s 9 c.val = some
         (bytes16 v.reading ++ [byte (match v.health with
           | .unseen => 0
           | .fresh => 1
           | .suspect => 2
           | .stale => 3), byte v.missCount, byte v.recoveryCount] ++ bytes32 v.lastGood.time.toNat)) ∧
     (∀ g : GroupId, readEntry s 5 g.val = some
       ([56, 48, 40, 32, 24, 16, 8, 0].map fun k => byte ((s.tables.groups[g.val]).toNat / 2 ^ k))) ∧
     (∀ i : Fin 11, readEntry s 6 i.val = some
       [byte s.tables.routes[i.val].priority, byte (weight s.tables.routes[i.val].rescan 1)]) ∧
     readEntry s 7 0 = some
       ([byte (s.settings.first.val * 16 + s.settings.last.val),
         byte (s.settings.staleLimit * 16 + s.settings.recoverLimit),
         byte ((match s.settings.mode with
           | .off => 0
           | .periodic => 1
           | .continuous => 2) * 64 + s.settings.threshold / 256 * 16 + (match s.settings.sky with
             | some c => c.val
             | none => 15))] ++
         bytes16 s.settings.period ++ bytes16 s.settings.verifyInterval ++ [byte s.settings.threshold]) ∧
     (∀ table index : Nat,
       table = 0 ∨ 10 < table ∨
         ((table = 1 ∨ table = 10) ∧ 64 ≤ index) ∨
         ((table = 2 ∨ table = 4 ∨ table = 5 ∨ table = 8) ∧ 16 ≤ index) ∨
         ((table = 3 ∨ table = 9) ∧ 8 ≤ index) ∨
         (table = 6 ∧ 11 ≤ index) ∨ (table = 7 ∧ 1 ≤ index) →
       readEntry s table index = none) ∧
     (s.harvesting = true ↔ ∃ a, s.isLum a = true) ∧
     (let c := s.scan
      let channel := if c.state = .scanning ∨ c.state = .stopping then
          (match (if c.onRow then c.lastQueried else c.next) with
           | some x => x.val
           | none => 0)
        else 0
      scanBytes c =
        [byte (match c.state with
           | .idle => 0
           | .scanning => 1
           | .stopping => 2
           | .suspended => 3),
          byte (weight c.urgent 1 + weight c.pending 2 + weight c.pendingUrgent 4 + channel * 16)] ∧
      statusBytes s =
        [byte (weight s.harvesting 1), byte s.segment.val, byte (weight s.power.present 1),
          byte (weight s.store.writing.isSome 16 + match s.store.last with
            | .none => 0
            | .done => 1
            | .failed => 2)] ++ scanBytes c))

/-- WRITE ENTRY to the tables that are plain storage (R26, R156 to R158): an index outside the table gives RANGE, then a store write in progress BUSY, then a field out of range RANGE, and an accepted write changes that entry and no other state; on the row of the tables that are not written this way, an entry of a table 1 to 10 is REFUSED (tables 4 and 8 to 10 by R157; that a table which has a row of its own is refused there too, which no frame brings, is the model's choice, log entry 26), and a table number or index that does not exist is RANGE. LOAD COEFFICIENTS (R156, R159): a zone or channel number out of range gives RANGE, then a store write BUSY, then a value above 4095 RANGE; an accepted load sets the run's coefficients in order, clears those above it with clear-rest, and changes nothing else. -/
def Obligations.WritesOfStoredTables : Prop :=
  (∀ (after : Nat) (req : Request) (table index : Byte) (group : BitVec 64) (route : BitVec 16) (s : State),
     let v := trunkFrameEnd after s
     let plain := fun st : Status => respond req (⟨st, false, []⟩, v)
     let busy := v.store.writing ≠ none
     let n := table.toNat
     let size :=
       if n = 1 ∨ n = 10 then 64
       else if n = 2 ∨ n = 4 ∨ n = 5 ∨ n = 8 then 16
       else if n = 3 ∨ n = 9 then 8
       else if n = 6 then 11
       else if n = 7 then 1
       else 0
     (16 ≤ index.toNat → exec (.writeTrunkGroupMap after req index group) s = .next (plain .range)) ∧
     (∀ h : index.toNat < 16,
       (busy → exec (.writeTrunkGroupMap after req index group) s = .next (plain .busy)) ∧
       (¬ busy → exec (.writeTrunkGroupMap after req index group) s = .next (respond req (⟨.ok, false, []⟩,
         { v with tables := { v.tables with groups := v.tables.groups.set index.toNat group } })))) ∧
     (11 ≤ index.toNat → exec (.writeEventRoute after req index route) s = .next (plain .range)) ∧
     (∀ h : index.toNat < 11,
       let priority := route.toNat / 256
       let rescan := route.toNat % 256
       (busy → exec (.writeEventRoute after req index route) s = .next (plain .busy)) ∧
       (¬ busy → 7 < priority ∨ 1 < rescan →
         exec (.writeEventRoute after req index route) s = .next (plain .range)) ∧
       (¬ busy → priority ≤ 7 → rescan ≤ 1 →
         exec (.writeEventRoute after req index route) s = .next (respond req (⟨.ok, false, []⟩,
           { v with tables := { v.tables with
             routes := v.tables.routes.set index.toNat ⟨priority, rescan == 1⟩ } })))) ∧
     (index.toNat < size →
       exec (.writeEntryReadOnly after req table index) s = .next (plain .refused)) ∧
     (size ≤ index.toNat →
       exec (.writeEntryReadOnly after req table index) s = .next (plain .range))) ∧
  (∀ (after : Nat) (req : Request) (zone channelByte : Byte) (values : List (BitVec 16)) (s : State),
     let v := trunkFrameEnd after s
     let plain := fun st : Status => respond req (⟨st, false, []⟩, v)
     let f := channelByte.toNat % 16
     let n := channelByte.toNat / 16 % 4 + 1
     let clear := 128 ≤ channelByte.toNat
     let load := exec (.loadCoefficients after req zone channelByte values) s
     values.length = n →
     (16 ≤ zone.toNat ∨ 8 ≤ f ∨ 8 < f + n → load = .next (plain .range)) ∧
     (zone.toNat < 16 → f < 8 → f + n ≤ 8 →
       (v.store.writing ≠ none → load = .next (plain .busy)) ∧
       (v.store.writing = none → (∃ x ∈ values, 4095 < x.toNat) → load = .next (plain .range)) ∧
       (v.store.writing = none → (∀ x ∈ values, x.toNat ≤ 4095) →
         ∃ u, load = .next (respond req (⟨.ok, false, []⟩, u)) ∧
           u = { v with tables := { v.tables with coeffs := u.tables.coeffs } } ∧
           ∀ (z : ZoneId) (c : ChannelId), u.coeff z c =
             if z.val ≠ zone.toNat ∨ c.val < f then v.coeff z c
             else if c.val < f + n then ((values[c.val - f]?).map BitVec.toNat).getD 0
             else if clear then 0 else v.coeff z c)))

/-- WRITE ENTRY to the row map (R38 to R40, R156): RANGE, BUSY and REFUSED in the order of R156; taking the LUMINAIRE role away removes the entry from all luminaire activity; giving it starts a new luminaire at base level 1000, PENDING when row power is PRESENT; a change of zone clears aligned, and a change of zone or P_min recomputes O as a non-urgent update. -/
def Obligations.RowMapWriteActsByRole : Prop :=
  ∀ (after : Nat) (req : Request) (index : Byte) (entry : BitVec 24) (s : State),
    let v := trunkFrameEnd after s
    let write := exec (.writeRowMapEntry after req index entry) s
    let plain := fun st : Status => Host.Outcome.next (arbitrate (respond req (⟨st, false, []⟩, v)))
    let busy := v.store.writing ≠ none
    (64 ≤ index.toNat → write = plain .range) ∧
    (index.toNat < 64 → busy → write = plain .busy) ∧
    (index.toNat < 64 → ¬ busy → parseRow entry = none → write = plain .range) ∧
    ∀ (h : index.toNat < 64) (r : RowConfig), ¬ busy → parseRow entry = some r →
      let a : Addr := ⟨index.toNat, h⟩
      let old := v.row a
      let l := v.lum a
      let refused := old.role = .sensor ∧ r.role ≠ .sensor ∧ ∃ c, (v.channelConfig c).unit = some a
      let w := { v with tables := { v.tables with rowMap := v.tables.rowMap.set a.val r } }
      let ok := fun u => write = .next (arbitrate (respond req (⟨.ok, false, []⟩, u)))
      (refused → write = plain .refused) ∧
      (old.role ≠ .luminaire → r.role ≠ .luminaire → ¬ refused → ok w) ∧
      (old.role = .luminaire → r.role ≠ .luminaire →
        ok { w.setLum a { l with shadow := .unknown, sentValid := false, urgent := false } with
          pendingList := v.pendingList.erase a
          verify := { v.verify with alignRecord := v.verify.alignRecord.map fun q =>
            if q.addr = a then { q with disregard := true } else q } }) ∧
      (old.role ≠ .luminaire → r.role = .luminaire → ¬ refused →
        ok { w.setLum a
              { base := 1000, baseFade := 0, output := w.outputFor a 1000
                shadow := if v.power.present then .pending else .unknown
                sent := l.sent, sentValid := false, emissionFade := 0, urgent := false
                aligned := false, health := .good, mismatches := 0, misses := 0 } with
          pendingList := if v.power.present then v.pendingList ++ [a] else v.pendingList }) ∧
      (old.role = .luminaire → r.role = .luminaire →
        let x := if old.zone = r.zone then w else w.setLum a { l with aligned := false }
        let fade := match r.zone with
          | some z => (v.zoneConfig z).trimFade
          | none => l.baseFade
        ok (if old.zone = r.zone ∧ old.pmin = r.pmin then w
            else outputUpdate a (w.outputFor a l.base) false fade x))

/-- WRITE ENTRY to the zone configuration (R62, R83, R84): binding makes the zone TRACK at R = 1000 with its status fresh and gives its members the larger of B and P_min, or 0 when B is 0; unbinding keeps every status field but the mode and gives them B; any other accepted write changes the record alone. The members are handed their outputs in ascending order as non-urgent updates with the zone's trim fade as written (R80). -/
def Obligations.ZoneWriteBindsAndUnbinds : Prop :=
  ∀ (after : Nat) (req : Request) (index : Byte) (entry : BitVec 64) (s : State),
    let v := trunkFrameEnd after s
    let write := exec (.writeZoneConfig after req index entry) s
    let plain := fun st : Status => Host.Outcome.next (arbitrate (respond req (⟨st, false, []⟩, v)))
    let busy := v.store.writing ≠ none
    (16 ≤ index.toNat → write = plain .range) ∧
    (index.toNat < 16 → busy → write = plain .busy) ∧
    (index.toNat < 16 → ¬ busy → parseZone entry = none → write = plain .range) ∧
    ∀ (h : index.toNat < 16) (c : ZoneConfig), ¬ busy → parseZone entry = some c →
      let z : ZoneId := ⟨index.toNat, h⟩
      let w := { v with tables := { v.tables with zones := v.tables.zones.set z.val c } }
      let member := fun a => v.isLum a = true ∧ (v.row a).zone = some z
      let members := addresses.filter fun a => v.isLum a && (v.row a).zone == some z
      ∃ u, write = .next (arbitrate (respond req (⟨.ok, false, []⟩, u))) ∧
        u = { w with zones := u.zones, lums := u.lums, pendingList := u.pendingList } ∧
        (∀ y, y ≠ z → u.zone y = v.zone y) ∧ (∀ a, ¬ member a → u.lum a = v.lum a) ∧
        (∀ a, (u.lum a).base = (v.lum a).base) ∧
        ((v.zoneConfig z).inUse = c.inUse → u = w) ∧
        ((v.zoneConfig z).inUse = false → c.inUse = true →
          u = State.handOutputs members
            (w.setZone z ⟨.track, 1000, 0, ⟨v.clock, false⟩, none, false, false⟩) ∧
          u.zone z = ⟨.track, 1000, 0, ⟨v.clock, false⟩, none, false, false⟩ ∧
          ∀ a, member a → (u.lum a).output =
            if (v.lum a).base = 0 then 0 else max (v.row a).pmin (v.lum a).base) ∧
        ((v.zoneConfig z).inUse = true → c.inUse = false →
          u = State.handOutputs members (w.setZone z { v.zone z with mode := .unbound }) ∧
          u.zone z = { v.zone z with mode := .unbound } ∧
          ∀ a, member a → (u.lum a).output = (v.lum a).base)

/-- SET ZONE MODE (R89 to R93): to one bound zone, or to every bound zone with zone field 255, HOLD keeps R, MANUAL sets R to 1000 and zero-since to none, and TRACK keeps R and leaves a FAILSAFE zone as it is; the members of changed zones are recomputed; the answer carries the mode and R, or the number of zones; a wrong zone or mode gives RANGE and an unbound zone REFUSED, and nothing changes. Each changed zone hands its members their outputs in ascending order as non-urgent updates with its trim fade (R80), zone after zone (R93; against R27's order over one event, log entry 29); that a mode byte of another row is answered RANGE is the model's choice, log entry 15. That these outputs are found with the present clock, so that at R = 0 a member can go to 0 although R has not changed, is the model's reading where R78 and R80 differ from R90 and R92, log entry 34. -/
def Obligations.SetZoneModeChangesBoundZones : Prop :=
  ∀ (after : Nat) (req : Request) (zone mode : Byte) (s : State),
    let v := trunkFrameEnd after s
    let plain := fun st : Status => Host.Outcome.next (arbitrate (respond req (⟨st, false, []⟩, v)))
    let bound := fun y : ZoneId => (v.zone y).mode ≠ .unbound
    let acts := fun (command : Host.Outcome State Fault Refusal) (code : Nat) (change : ZoneStatus → ZoneStatus) =>
      let zoneByZone := fun zs : List ZoneId => zs.foldl (fun (x : State) y =>
        if change (v.zone y) = v.zone y then x
        else State.handOutputs (addresses.filter fun a => v.isLum a && (v.row a).zone == some y)
          (x.setZone y (change (v.zone y)))) v
      let changed := fun (zs : List ZoneId) (u : State) =>
        u = zoneByZone zs ∧
        u = { v with zones := u.zones, lums := u.lums, pendingList := u.pendingList } ∧
        (∀ y, y ∈ zs → u.zone y = change (v.zone y)) ∧ (∀ y, y ∉ zs → u.zone y = v.zone y) ∧
        (∀ a, (u.lum a).base = (v.lum a).base) ∧
        (∀ a y, v.isLum a = true → (v.row a).zone = some y → y ∈ zs → change (v.zone y) ≠ v.zone y →
          (u.lum a).output = u.outputFor a (v.lum a).base) ∧
        (∀ a, (v.isLum a = false ∨ ∀ y, (v.row a).zone = some y →
            y ∉ zs ∨ change (v.zone y) = v.zone y) → u.lum a = v.lum a)
      (16 ≤ zone.toNat → zone ≠ 255 → command = plain .range) ∧
      (mode.toNat ≠ code → command = plain .range) ∧
      (mode.toNat = code →
        (∀ h : zone.toNat < 16,
          let z : ZoneId := ⟨zone.toNat, h⟩
          (¬ bound z → command = plain .refused) ∧
          (bound z → ∃ u, command = .next (arbitrate (respond req (⟨.ok, false,
              byte (zoneModeCode (change (v.zone z)).mode) :: bytes16 (change (v.zone z)).ratio⟩, u))) ∧
            changed [z] u)) ∧
        (zone = 255 → ∃ u, command = .next (arbitrate (respond req (⟨.ok, false,
            [byte (zoneIds.filter fun y => (v.zone y).mode != .unbound).length]⟩, u))) ∧
            changed (zoneIds.filter fun y => (v.zone y).mode != .unbound) u))
    acts (exec (.setZoneModeHold after req zone mode) s) 2 (fun x => { x with mode := .hold }) ∧
    acts (exec (.setZoneModeManual after req zone mode) s) 3 (fun x =>
      if x.mode = .manual then x else { x with mode := .manual, ratio := 1000, zeroSince := none }) ∧
    acts (exec (.setZoneModeTrack after req zone mode) s) 1 (fun x =>
      if x.mode = .failsafe then x else { x with mode := .track })

/-- WRITE ENTRY to the channel configuration (R44, R50): a unit whose entry is no SENSOR is REFUSED; a changed unit resets the channel, makes the outcome of its query on the row of no account, and, while a candidate is offered, has the next channel found afresh, the scan completing if none remains. -/
def Obligations.ChannelWriteFollowsTheScan : Prop :=
  ∀ (after : Nat) (req : Request) (index : Byte) (entry : BitVec 24) (s : State),
    let v := trunkFrameEnd after s
    let write := exec (.writeChannelConfig after req index entry) s
    let plain := fun st : Status => Host.Outcome.next (arbitrate (respond req (⟨st, false, []⟩, v)))
    let busy := v.store.writing ≠ none
    (8 ≤ index.toNat → write = plain .range) ∧
    (index.toNat < 8 → busy → write = plain .busy) ∧
    (index.toNat < 8 → ¬ busy → parseChannel entry = none → write = plain .range) ∧
    ∀ (h : index.toNat < 8) (r : ChannelConfig), ¬ busy → parseChannel entry = some r →
      let c : ChannelId := ⟨index.toNat, h⟩
      let refused := ∃ a, r.unit = some a ∧ (v.row a).role ≠ .sensor
      let w := { v with tables := { v.tables with channels := v.tables.channels.set c.val r } }
      let from_ := match v.scan.lastQueried with
        | some q => q.val + 1
        | none => v.scan.first.val
      let remains := fun d : ChannelId => from_ ≤ d.val ∧ v.scan.first ≤ d ∧ d ≤ v.scan.last ∧
        (w.channelConfig d).unit ≠ none
      let reset := { w with channels := v.channels.set c.val ⟨0, .unseen, 0, 0, .zero⟩ }
      let ok := fun u => write = .next (arbitrate (respond req (⟨.ok, false, []⟩, u)))
      let offers := fun next : Option ChannelId => { reset with scan := { v.scan with next := next } }
      (refused → write = plain .refused) ∧
      (¬ refused →
        ((v.channelConfig c).unit = r.unit → ok w) ∧
        ((v.channelConfig c).unit ≠ r.unit →
          (v.scan.onRow = true → ok { reset with
            scan := { v.scan with
              disregard := v.scan.disregard || v.scan.lastQueried == some c } }) ∧
          (v.scan.onRow = false → v.scan.state ≠ .scanning → ok reset) ∧
          (v.scan.onRow = false → v.scan.state = .scanning →
            (∀ d, remains d → (∀ e, remains e → d ≤ e) → ok (offers (some d))) ∧
            ((∀ d, ¬ remains d) → ok (finishScan (offers none)) ∧
              ∀ z, (v.zone z).mode ≠ .unbound →
                ((finishScan (offers none)).zone z).lastPass = ⟨v.clock, false⟩))))

/-- WRITE ENTRY to the settings record (R45, R55): a change to OFF stops the scan at once or, with its query on the row, at the close of the window; a change away from OFF starts a scan in IDLE and sets rescan pending in STOPPING; PERIODIC to CONTINUOUS is a trigger; and a periodic tick that the new mode or period makes due occurs at the write. That rescan pending is kept on entering STOPPING is log entry 17, and that the tick occurs at the write only when mode or period changes, and once for each start, is log entry 20. -/
def Obligations.SettingsWriteChangesTheScanMode : Prop :=
  ∀ (after : Nat) (req : Request) (index : Byte) (entry : BitVec 64) (s : State),
    let v := trunkFrameEnd after s
    let write := exec (.writeSettings after req index entry) s
    let plain := fun st : Status => Host.Outcome.next (arbitrate (respond req (⟨st, false, []⟩, v)))
    let busy := v.store.writing ≠ none
    (index ≠ 0 → write = plain .range) ∧
    (index = 0 → busy → write = plain .busy) ∧
    (index = 0 → ¬ busy → parseSettings entry = none → write = plain .range) ∧
    ∀ t : Settings, index = 0 → ¬ busy → parseSettings entry = some t →
      let old := v.settings
      let w := { v with tables := { v.tables with settings := t } }
      let ok := fun u => write = .next (arbitrate (respond req (⟨.ok, false, []⟩, u)))
      let stopped := { v.scan with pending := false, pendingUrgent := false }
      let tick := { w with scan := { v.scan with tickTaken := true } }
      let due := t.mode = .periodic ∧ v.scan.state ≠ .suspended ∧ v.scan.tickTaken = false ∧
        t.period ≤ v.scan.start.interval v.clock
      (old.mode = t.mode → old.period = t.period → ok w) ∧
      (old.mode ≠ .off → t.mode = .off →
        (v.scan.state = .scanning → v.scan.onRow = true →
          ok { w with scan := { v.scan with state := .stopping } }) ∧
        (v.scan.state = .scanning → v.scan.onRow = false →
          ok { w with scan := { stopped with
            state := .idle, next := none, onRow := false, disregard := false, urgent := false } }) ∧
        (v.scan.state = .stopping → ok { w with scan := stopped }) ∧
        (v.scan.state = .idle ∨ v.scan.state = .suspended → ok w)) ∧
      (old.mode = .off → t.mode ≠ .off →
        (v.scan.state = .suspended → ok w) ∧
        (v.scan.state = .stopping → ok (if due then
            { w with scan := { v.scan with pending := true, tickTaken := true } }
          else { w with scan := { v.scan with pending := true } })) ∧
        (v.scan.state = .idle → ok (trigger false w))) ∧
      (old.mode = .periodic → t.mode = .continuous → ok (trigger false w)) ∧
      (old.mode = .continuous → t.mode = .periodic → ok (if due then trigger false tick else w)) ∧
      (old.mode = t.mode → old.period ≠ t.period → ok (if due then trigger false tick else w))

/-! ## MANAGE frames -/

/-- A MANAGE frame that arrives whole is the command of its operation's row, with its request number, table, index, part, entry, values and mode, whatever further payload bytes it carries (R155, R157, R175). Which row carries a part or a mode byte that no row names is the model's choice, log entry 15. -/
def Obligations.ManageFramesAreTheirCommands : Prop :=
  ∀ (s : State) (after : Nat) (noise : Bool) (d : Dest) (number table index part zone mode : Byte)
    (extra : List Byte),
    let seg : Byte := match d with
      | .own => s.segmentByte
      | .all => 255
    let req : Request := ⟨d, number⟩
    let command := fun p : List Byte =>
      trunkCommand s.segmentByte after ⟨(Frame.mk .manage seg 126 (p ++ extra)).bytes, false, noise⟩
    let room := fun n : Nat => n + extra.length ≤ 12
    let bytes24 := fun e : BitVec 24 =>
      [byte (e.toNat / 65536), byte (e.toNat / 256), byte e.toNat]
    (room 5 → command [1, number, table, index, part] =
      if part = 1 then .readEntryPart1 after req table index
      else .readEntryPart0 after req table index part) ∧
    (∀ e : BitVec 24, room 7 →
      command ([2, number, 1, index] ++ bytes24 e) = .writeRowMapEntry after req index e ∧
      command ([2, number, 3, index] ++ bytes24 e) = .writeChannelConfig after req index e) ∧
    (∀ e : BitVec 64, room 12 →
      command ([2, number, 2, index] ++ bytes64 e) = .writeZoneConfig after req index e ∧
      command ([2, number, 5, index] ++ bytes64 e) = .writeTrunkGroupMap after req index e ∧
      command ([2, number, 7, index] ++ bytes64 e) = .writeSettings after req index e) ∧
    (∀ e : BitVec 16, room 6 →
      command ([2, number, 6, index] ++ bytes16 e.toNat) = .writeEventRoute after req index e) ∧
    (room 4 → table ∉ ([1, 2, 3, 5, 6, 7] : List Byte) →
      command [2, number, table, index] = .writeEntryReadOnly after req table index) ∧
    (∀ (channelByte : Byte) (values : List (BitVec 16)), values.length = channelByte.toNat / 16 % 4 + 1 →
      room (4 + 2 * values.length) →
      command ([3, number, zone, channelByte] ++ values.flatMap fun x => bytes16 x.toNat) =
        .loadCoefficients after req zone channelByte values) ∧
    (room 4 → command [4, number, zone, mode] =
      if mode = 2 then .setZoneModeHold after req zone mode
      else if mode = 3 then .setZoneModeManual after req zone mode
      else .setZoneModeTrack after req zone mode) ∧
    (room 2 →
      command [5, number] = .triggerScan after req ∧ command [6, number] = .commit after req ∧
      command [7, number] = .restart after req ∧
      ∀ op : Byte, op = 0 ∨ 8 < op.toNat → command [op, number] = .unknownOperation after req op) ∧
    (room 3 → command [8, number, part] =
      if part = 1 then .readStatusPart1 after req else .readStatusPart0 after req part)
end

