-- ==== Sys2Proof/Laws/State.lean ====
section
/-! SUPPORT. What each named update of the state leaves in each field, so that no proof unfolds a record update. -/

namespace Sys2Proof.Machine

/-! ## Reading what was put -/

@[simp] theorem lum_setLum_self (s : State) (a : Addr) (l : Lum) : (s.setLum a l).lum a = l := by
  simp [State.lum, State.setLum]

theorem lum_setLum (s : State) (a b : Addr) (l : Lum) :
    (s.setLum a l).lum b = if b = a then l else s.lum b := by
  unfold State.lum State.setLum
  simp only [Vector.getElem_set]
  by_cases h : a = b
  · simp [h]
  · simp [Fin.val_ne_of_ne h, Ne.symm h]

theorem lum_setLum_of_ne (s : State) {a b : Addr} (l : Lum) (h : b ≠ a) :
    (s.setLum a l).lum b = s.lum b := by simp [lum_setLum, h]

@[simp] theorem setLum_setLum (s : State) (a : Addr) (l m : Lum) :
    (s.setLum a l).setLum a m = s.setLum a m := by
  simp [State.setLum, Vector.set_set]

@[simp] theorem setLum_lum (s : State) (a : Addr) : s.setLum a (s.lum a) = s := by
  simp [State.setLum, State.lum]

@[simp] theorem zone_setZone_self (s : State) (z : ZoneId) (v : ZoneStatus) : (s.setZone z v).zone z = v := by
  simp [State.zone, State.setZone]

theorem zone_setZone (s : State) (z y : ZoneId) (v : ZoneStatus) :
    (s.setZone z v).zone y = if y = z then v else s.zone y := by
  unfold State.zone State.setZone
  simp only [Vector.getElem_set]
  by_cases h : z = y
  · simp [h]
  · simp [Fin.val_ne_of_ne h, Ne.symm h]

@[simp] theorem channel_setChannel_self (s : State) (c : ChannelId) (v : ChannelStatus) :
    (s.setChannel c v).channel c = v := by
  simp [State.channel, State.setChannel]

theorem channel_setChannel (s : State) (c d : ChannelId) (v : ChannelStatus) :
    (s.setChannel c v).channel d = if d = c then v else s.channel d := by
  unfold State.channel State.setChannel
  simp only [Vector.getElem_set]
  by_cases h : c = d
  · simp [h]
  · simp [Fin.val_ne_of_ne h, Ne.symm h]

theorem row_setRow (s : State) (a b : Addr) (r : RowConfig) :
    (s.setRow a r).row b = if b = a then r else s.row b := by
  unfold State.row State.setRow
  simp only [Vector.getElem_set]
  by_cases h : a = b
  · simp [h]
  · simp [Fin.val_ne_of_ne h, Ne.symm h]

/-- Two states whose entries agree have the same dynamic fields. -/
theorem lums_ext {s t : State} (h : ∀ a, s.lum a = t.lum a) : s.lums = t.lums := by
  apply Vector.ext
  intro i hi
  exact h ⟨i, hi⟩

/-! ## passTime -/

@[simp] theorem passTime_pending (us : Nat) (s : State) : (passTime us s).pending = s.pending := rfl
@[simp] theorem passTime_clock (us : Nat) (s : State) : (passTime us s).clock = s.clock + BitVec.ofNat 32 ((s.subMs + us) / 1000) := rfl
@[simp] theorem passTime_subMs (us : Nat) (s : State) : (passTime us s).subMs = (s.subMs + us) % 1000 := rfl
@[simp] theorem passTime_portTime (us : Nat) (s : State) : (passTime us s).portTime = s.portTime + us := rfl
@[simp] theorem passTime_segment (us : Nat) (s : State) : (passTime us s).segment = s.segment := rfl
@[simp] theorem passTime_tables (us : Nat) (s : State) : (passTime us s).tables = s.tables := rfl
@[simp] theorem passTime_lums (us : Nat) (s : State) : (passTime us s).lums = s.lums := rfl
@[simp] theorem passTime_pendingList (us : Nat) (s : State) : (passTime us s).pendingList = s.pendingList := rfl
@[simp] theorem passTime_zones (us : Nat) (s : State) : (passTime us s).zones = s.zones := rfl
@[simp] theorem passTime_channels (us : Nat) (s : State) : (passTime us s).channels = s.channels := rfl
@[simp] theorem passTime_scan (us : Nat) (s : State) : (passTime us s).scan = s.scan := rfl
@[simp] theorem passTime_power (us : Nat) (s : State) : (passTime us s).power = s.power := rfl
@[simp] theorem passTime_rowTx (us : Nat) (s : State) : (passTime us s).rowTx = s.rowTx := rfl
@[simp] theorem passTime_rowActivity (us : Nat) (s : State) : (passTime us s).rowActivity = s.rowActivity := rfl
@[simp] theorem passTime_rowForeign (us : Nat) (s : State) : (passTime us s).rowForeign = s.rowForeign := rfl
@[simp] theorem passTime_starvation (us : Nat) (s : State) : (passTime us s).starvation = s.starvation := rfl
@[simp] theorem passTime_lowerTurn (us : Nat) (s : State) : (passTime us s).lowerTurn = s.lowerTurn := rfl
@[simp] theorem passTime_emission (us : Nat) (s : State) : (passTime us s).emission = s.emission := rfl
@[simp] theorem passTime_forward (us : Nat) (s : State) : (passTime us s).forward = s.forward := rfl
@[simp] theorem passTime_lastTag (us : Nat) (s : State) : (passTime us s).lastTag = s.lastTag := rfl
@[simp] theorem passTime_tagsInUse (us : Nat) (s : State) : (passTime us s).tagsInUse = s.tagsInUse := rfl
@[simp] theorem passTime_upstream (us : Nat) (s : State) : (passTime us s).upstream = s.upstream := rfl
@[simp] theorem passTime_noticesLost (us : Nat) (s : State) : (passTime us s).noticesLost = s.noticesLost := rfl
@[simp] theorem passTime_lostSinceStart (us : Nat) (s : State) : (passTime us s).lostSinceStart = s.lostSinceStart := rfl
@[simp] theorem passTime_trunkTx (us : Nat) (s : State) : (passTime us s).trunkTx = s.trunkTx := rfl
@[simp] theorem passTime_answer (us : Nat) (s : State) : (passTime us s).answer = s.answer := rfl
@[simp] theorem passTime_trunkIdle (us : Nat) (s : State) : (passTime us s).trunkIdle = s.trunkIdle := rfl
@[simp] theorem passTime_counters (us : Nat) (s : State) : (passTime us s).counters = s.counters := rfl
@[simp] theorem passTime_verify (us : Nat) (s : State) : (passTime us s).verify = s.verify := rfl
@[simp] theorem passTime_store (us : Nat) (s : State) : (passTime us s).store = s.store := rfl
@[simp] theorem passTime_snapshot (us : Nat) (s : State) : (passTime us s).snapshot = s.snapshot := rfl
@[simp] theorem passTime_restart (us : Nat) (s : State) : (passTime us s).restart = s.restart := rfl
@[simp] theorem passTime_row_of (us : Nat) (s : State) (b : Addr) : (passTime us s).row b = s.row b := rfl
@[simp] theorem passTime_zoneConfig_of (us : Nat) (s : State) (y : ZoneId) : (passTime us s).zoneConfig y = s.zoneConfig y := rfl
@[simp] theorem passTime_channelConfig_of (us : Nat) (s : State) (d : ChannelId) : (passTime us s).channelConfig d = s.channelConfig d := rfl
@[simp] theorem passTime_isLum_of (us : Nat) (s : State) (b : Addr) : (passTime us s).isLum b = s.isLum b := rfl
@[simp] theorem passTime_settings_of (us : Nat) (s : State) : (passTime us s).settings = s.settings := rfl
@[simp] theorem passTime_lum_of (us : Nat) (s : State) (b : Addr) : (passTime us s).lum b = s.lum b := rfl
@[simp] theorem passTime_zone_of (us : Nat) (s : State) (y : ZoneId) : (passTime us s).zone y = s.zone y := rfl
@[simp] theorem passTime_channel_of (us : Nat) (s : State) (d : ChannelId) : (passTime us s).channel d = s.channel d := rfl

/-! ## setLum -/

@[simp] theorem setLum_pending (s : State) (a : Addr) (l : Lum) : (s.setLum a l).pending = s.pending := rfl
@[simp] theorem setLum_clock (s : State) (a : Addr) (l : Lum) : (s.setLum a l).clock = s.clock := rfl
@[simp] theorem setLum_subMs (s : State) (a : Addr) (l : Lum) : (s.setLum a l).subMs = s.subMs := rfl
@[simp] theorem setLum_portTime (s : State) (a : Addr) (l : Lum) : (s.setLum a l).portTime = s.portTime := rfl
@[simp] theorem setLum_segment (s : State) (a : Addr) (l : Lum) : (s.setLum a l).segment = s.segment := rfl
@[simp] theorem setLum_tables (s : State) (a : Addr) (l : Lum) : (s.setLum a l).tables = s.tables := rfl
@[simp] theorem setLum_lums (s : State) (a : Addr) (l : Lum) : (s.setLum a l).lums = s.lums.set a.val l := rfl
@[simp] theorem setLum_pendingList (s : State) (a : Addr) (l : Lum) : (s.setLum a l).pendingList = s.pendingList := rfl
@[simp] theorem setLum_zones (s : State) (a : Addr) (l : Lum) : (s.setLum a l).zones = s.zones := rfl
@[simp] theorem setLum_channels (s : State) (a : Addr) (l : Lum) : (s.setLum a l).channels = s.channels := rfl
@[simp] theorem setLum_scan (s : State) (a : Addr) (l : Lum) : (s.setLum a l).scan = s.scan := rfl
@[simp] theorem setLum_power (s : State) (a : Addr) (l : Lum) : (s.setLum a l).power = s.power := rfl
@[simp] theorem setLum_rowTx (s : State) (a : Addr) (l : Lum) : (s.setLum a l).rowTx = s.rowTx := rfl
@[simp] theorem setLum_rowActivity (s : State) (a : Addr) (l : Lum) : (s.setLum a l).rowActivity = s.rowActivity := rfl
@[simp] theorem setLum_rowForeign (s : State) (a : Addr) (l : Lum) : (s.setLum a l).rowForeign = s.rowForeign := rfl
@[simp] theorem setLum_starvation (s : State) (a : Addr) (l : Lum) : (s.setLum a l).starvation = s.starvation := rfl
@[simp] theorem setLum_lowerTurn (s : State) (a : Addr) (l : Lum) : (s.setLum a l).lowerTurn = s.lowerTurn := rfl
@[simp] theorem setLum_emission (s : State) (a : Addr) (l : Lum) : (s.setLum a l).emission = s.emission := rfl
@[simp] theorem setLum_forward (s : State) (a : Addr) (l : Lum) : (s.setLum a l).forward = s.forward := rfl
@[simp] theorem setLum_lastTag (s : State) (a : Addr) (l : Lum) : (s.setLum a l).lastTag = s.lastTag := rfl
@[simp] theorem setLum_tagsInUse (s : State) (a : Addr) (l : Lum) : (s.setLum a l).tagsInUse = s.tagsInUse := rfl
@[simp] theorem setLum_upstream (s : State) (a : Addr) (l : Lum) : (s.setLum a l).upstream = s.upstream := rfl
@[simp] theorem setLum_noticesLost (s : State) (a : Addr) (l : Lum) : (s.setLum a l).noticesLost = s.noticesLost := rfl
@[simp] theorem setLum_lostSinceStart (s : State) (a : Addr) (l : Lum) : (s.setLum a l).lostSinceStart = s.lostSinceStart := rfl
@[simp] theorem setLum_trunkTx (s : State) (a : Addr) (l : Lum) : (s.setLum a l).trunkTx = s.trunkTx := rfl
@[simp] theorem setLum_answer (s : State) (a : Addr) (l : Lum) : (s.setLum a l).answer = s.answer := rfl
@[simp] theorem setLum_trunkIdle (s : State) (a : Addr) (l : Lum) : (s.setLum a l).trunkIdle = s.trunkIdle := rfl
@[simp] theorem setLum_counters (s : State) (a : Addr) (l : Lum) : (s.setLum a l).counters = s.counters := rfl
@[simp] theorem setLum_verify (s : State) (a : Addr) (l : Lum) : (s.setLum a l).verify = s.verify := rfl
@[simp] theorem setLum_store (s : State) (a : Addr) (l : Lum) : (s.setLum a l).store = s.store := rfl
@[simp] theorem setLum_snapshot (s : State) (a : Addr) (l : Lum) : (s.setLum a l).snapshot = s.snapshot := rfl
@[simp] theorem setLum_restart (s : State) (a : Addr) (l : Lum) : (s.setLum a l).restart = s.restart := rfl
@[simp] theorem setLum_row_of (s : State) (a : Addr) (l : Lum) (b : Addr) : (s.setLum a l).row b = s.row b := rfl
@[simp] theorem setLum_zoneConfig_of (s : State) (a : Addr) (l : Lum) (y : ZoneId) : (s.setLum a l).zoneConfig y = s.zoneConfig y := rfl
@[simp] theorem setLum_channelConfig_of (s : State) (a : Addr) (l : Lum) (d : ChannelId) : (s.setLum a l).channelConfig d = s.channelConfig d := rfl
@[simp] theorem setLum_isLum_of (s : State) (a : Addr) (l : Lum) (b : Addr) : (s.setLum a l).isLum b = s.isLum b := rfl
@[simp] theorem setLum_settings_of (s : State) (a : Addr) (l : Lum) : (s.setLum a l).settings = s.settings := rfl
@[simp] theorem setLum_zone_of (s : State) (a : Addr) (l : Lum) (y : ZoneId) : (s.setLum a l).zone y = s.zone y := rfl
@[simp] theorem setLum_channel_of (s : State) (a : Addr) (l : Lum) (d : ChannelId) : (s.setLum a l).channel d = s.channel d := rfl

/-! ## setZone -/

@[simp] theorem setZone_pending (s : State) (z : ZoneId) (v : ZoneStatus) : (s.setZone z v).pending = s.pending := rfl
@[simp] theorem setZone_clock (s : State) (z : ZoneId) (v : ZoneStatus) : (s.setZone z v).clock = s.clock := rfl
@[simp] theorem setZone_subMs (s : State) (z : ZoneId) (v : ZoneStatus) : (s.setZone z v).subMs = s.subMs := rfl
@[simp] theorem setZone_portTime (s : State) (z : ZoneId) (v : ZoneStatus) : (s.setZone z v).portTime = s.portTime := rfl
@[simp] theorem setZone_segment (s : State) (z : ZoneId) (v : ZoneStatus) : (s.setZone z v).segment = s.segment := rfl
@[simp] theorem setZone_tables (s : State) (z : ZoneId) (v : ZoneStatus) : (s.setZone z v).tables = s.tables := rfl
@[simp] theorem setZone_lums (s : State) (z : ZoneId) (v : ZoneStatus) : (s.setZone z v).lums = s.lums := rfl
@[simp] theorem setZone_pendingList (s : State) (z : ZoneId) (v : ZoneStatus) : (s.setZone z v).pendingList = s.pendingList := rfl
@[simp] theorem setZone_zones (s : State) (z : ZoneId) (v : ZoneStatus) : (s.setZone z v).zones = s.zones.set z.val v := rfl
@[simp] theorem setZone_channels (s : State) (z : ZoneId) (v : ZoneStatus) : (s.setZone z v).channels = s.channels := rfl
@[simp] theorem setZone_scan (s : State) (z : ZoneId) (v : ZoneStatus) : (s.setZone z v).scan = s.scan := rfl
@[simp] theorem setZone_power (s : State) (z : ZoneId) (v : ZoneStatus) : (s.setZone z v).power = s.power := rfl
@[simp] theorem setZone_rowTx (s : State) (z : ZoneId) (v : ZoneStatus) : (s.setZone z v).rowTx = s.rowTx := rfl
@[simp] theorem setZone_rowActivity (s : State) (z : ZoneId) (v : ZoneStatus) : (s.setZone z v).rowActivity = s.rowActivity := rfl
@[simp] theorem setZone_rowForeign (s : State) (z : ZoneId) (v : ZoneStatus) : (s.setZone z v).rowForeign = s.rowForeign := rfl
@[simp] theorem setZone_starvation (s : State) (z : ZoneId) (v : ZoneStatus) : (s.setZone z v).starvation = s.starvation := rfl
@[simp] theorem setZone_lowerTurn (s : State) (z : ZoneId) (v : ZoneStatus) : (s.setZone z v).lowerTurn = s.lowerTurn := rfl
@[simp] theorem setZone_emission (s : State) (z : ZoneId) (v : ZoneStatus) : (s.setZone z v).emission = s.emission := rfl
@[simp] theorem setZone_forward (s : State) (z : ZoneId) (v : ZoneStatus) : (s.setZone z v).forward = s.forward := rfl
@[simp] theorem setZone_lastTag (s : State) (z : ZoneId) (v : ZoneStatus) : (s.setZone z v).lastTag = s.lastTag := rfl
@[simp] theorem setZone_tagsInUse (s : State) (z : ZoneId) (v : ZoneStatus) : (s.setZone z v).tagsInUse = s.tagsInUse := rfl
@[simp] theorem setZone_upstream (s : State) (z : ZoneId) (v : ZoneStatus) : (s.setZone z v).upstream = s.upstream := rfl
@[simp] theorem setZone_noticesLost (s : State) (z : ZoneId) (v : ZoneStatus) : (s.setZone z v).noticesLost = s.noticesLost := rfl
@[simp] theorem setZone_lostSinceStart (s : State) (z : ZoneId) (v : ZoneStatus) : (s.setZone z v).lostSinceStart = s.lostSinceStart := rfl
@[simp] theorem setZone_trunkTx (s : State) (z : ZoneId) (v : ZoneStatus) : (s.setZone z v).trunkTx = s.trunkTx := rfl
@[simp] theorem setZone_answer (s : State) (z : ZoneId) (v : ZoneStatus) : (s.setZone z v).answer = s.answer := rfl
@[simp] theorem setZone_trunkIdle (s : State) (z : ZoneId) (v : ZoneStatus) : (s.setZone z v).trunkIdle = s.trunkIdle := rfl
@[simp] theorem setZone_counters (s : State) (z : ZoneId) (v : ZoneStatus) : (s.setZone z v).counters = s.counters := rfl
@[simp] theorem setZone_verify (s : State) (z : ZoneId) (v : ZoneStatus) : (s.setZone z v).verify = s.verify := rfl
@[simp] theorem setZone_store (s : State) (z : ZoneId) (v : ZoneStatus) : (s.setZone z v).store = s.store := rfl
@[simp] theorem setZone_snapshot (s : State) (z : ZoneId) (v : ZoneStatus) : (s.setZone z v).snapshot = s.snapshot := rfl
@[simp] theorem setZone_restart (s : State) (z : ZoneId) (v : ZoneStatus) : (s.setZone z v).restart = s.restart := rfl
@[simp] theorem setZone_row_of (s : State) (z : ZoneId) (v : ZoneStatus) (b : Addr) : (s.setZone z v).row b = s.row b := rfl
@[simp] theorem setZone_zoneConfig_of (s : State) (z : ZoneId) (v : ZoneStatus) (y : ZoneId) : (s.setZone z v).zoneConfig y = s.zoneConfig y := rfl
@[simp] theorem setZone_channelConfig_of (s : State) (z : ZoneId) (v : ZoneStatus) (d : ChannelId) : (s.setZone z v).channelConfig d = s.channelConfig d := rfl
@[simp] theorem setZone_isLum_of (s : State) (z : ZoneId) (v : ZoneStatus) (b : Addr) : (s.setZone z v).isLum b = s.isLum b := rfl
@[simp] theorem setZone_settings_of (s : State) (z : ZoneId) (v : ZoneStatus) : (s.setZone z v).settings = s.settings := rfl
@[simp] theorem setZone_lum_of (s : State) (z : ZoneId) (v : ZoneStatus) (b : Addr) : (s.setZone z v).lum b = s.lum b := rfl
@[simp] theorem setZone_channel_of (s : State) (z : ZoneId) (v : ZoneStatus) (d : ChannelId) : (s.setZone z v).channel d = s.channel d := rfl

/-! ## setChannel -/

@[simp] theorem setChannel_pending (s : State) (c : ChannelId) (v : ChannelStatus) : (s.setChannel c v).pending = s.pending := rfl
@[simp] theorem setChannel_clock (s : State) (c : ChannelId) (v : ChannelStatus) : (s.setChannel c v).clock = s.clock := rfl
@[simp] theorem setChannel_subMs (s : State) (c : ChannelId) (v : ChannelStatus) : (s.setChannel c v).subMs = s.subMs := rfl
@[simp] theorem setChannel_portTime (s : State) (c : ChannelId) (v : ChannelStatus) : (s.setChannel c v).portTime = s.portTime := rfl
@[simp] theorem setChannel_segment (s : State) (c : ChannelId) (v : ChannelStatus) : (s.setChannel c v).segment = s.segment := rfl
@[simp] theorem setChannel_tables (s : State) (c : ChannelId) (v : ChannelStatus) : (s.setChannel c v).tables = s.tables := rfl
@[simp] theorem setChannel_lums (s : State) (c : ChannelId) (v : ChannelStatus) : (s.setChannel c v).lums = s.lums := rfl
@[simp] theorem setChannel_pendingList (s : State) (c : ChannelId) (v : ChannelStatus) : (s.setChannel c v).pendingList = s.pendingList := rfl
@[simp] theorem setChannel_zones (s : State) (c : ChannelId) (v : ChannelStatus) : (s.setChannel c v).zones = s.zones := rfl
@[simp] theorem setChannel_channels (s : State) (c : ChannelId) (v : ChannelStatus) : (s.setChannel c v).channels = s.channels.set c.val v := rfl
@[simp] theorem setChannel_scan (s : State) (c : ChannelId) (v : ChannelStatus) : (s.setChannel c v).scan = s.scan := rfl
@[simp] theorem setChannel_power (s : State) (c : ChannelId) (v : ChannelStatus) : (s.setChannel c v).power = s.power := rfl
@[simp] theorem setChannel_rowTx (s : State) (c : ChannelId) (v : ChannelStatus) : (s.setChannel c v).rowTx = s.rowTx := rfl
@[simp] theorem setChannel_rowActivity (s : State) (c : ChannelId) (v : ChannelStatus) : (s.setChannel c v).rowActivity = s.rowActivity := rfl
@[simp] theorem setChannel_rowForeign (s : State) (c : ChannelId) (v : ChannelStatus) : (s.setChannel c v).rowForeign = s.rowForeign := rfl
@[simp] theorem setChannel_starvation (s : State) (c : ChannelId) (v : ChannelStatus) : (s.setChannel c v).starvation = s.starvation := rfl
@[simp] theorem setChannel_lowerTurn (s : State) (c : ChannelId) (v : ChannelStatus) : (s.setChannel c v).lowerTurn = s.lowerTurn := rfl
@[simp] theorem setChannel_emission (s : State) (c : ChannelId) (v : ChannelStatus) : (s.setChannel c v).emission = s.emission := rfl
@[simp] theorem setChannel_forward (s : State) (c : ChannelId) (v : ChannelStatus) : (s.setChannel c v).forward = s.forward := rfl
@[simp] theorem setChannel_lastTag (s : State) (c : ChannelId) (v : ChannelStatus) : (s.setChannel c v).lastTag = s.lastTag := rfl
@[simp] theorem setChannel_tagsInUse (s : State) (c : ChannelId) (v : ChannelStatus) : (s.setChannel c v).tagsInUse = s.tagsInUse := rfl
@[simp] theorem setChannel_upstream (s : State) (c : ChannelId) (v : ChannelStatus) : (s.setChannel c v).upstream = s.upstream := rfl
@[simp] theorem setChannel_noticesLost (s : State) (c : ChannelId) (v : ChannelStatus) : (s.setChannel c v).noticesLost = s.noticesLost := rfl
@[simp] theorem setChannel_lostSinceStart (s : State) (c : ChannelId) (v : ChannelStatus) : (s.setChannel c v).lostSinceStart = s.lostSinceStart := rfl
@[simp] theorem setChannel_trunkTx (s : State) (c : ChannelId) (v : ChannelStatus) : (s.setChannel c v).trunkTx = s.trunkTx := rfl
@[simp] theorem setChannel_answer (s : State) (c : ChannelId) (v : ChannelStatus) : (s.setChannel c v).answer = s.answer := rfl
@[simp] theorem setChannel_trunkIdle (s : State) (c : ChannelId) (v : ChannelStatus) : (s.setChannel c v).trunkIdle = s.trunkIdle := rfl
@[simp] theorem setChannel_counters (s : State) (c : ChannelId) (v : ChannelStatus) : (s.setChannel c v).counters = s.counters := rfl
@[simp] theorem setChannel_verify (s : State) (c : ChannelId) (v : ChannelStatus) : (s.setChannel c v).verify = s.verify := rfl
@[simp] theorem setChannel_store (s : State) (c : ChannelId) (v : ChannelStatus) : (s.setChannel c v).store = s.store := rfl
@[simp] theorem setChannel_snapshot (s : State) (c : ChannelId) (v : ChannelStatus) : (s.setChannel c v).snapshot = s.snapshot := rfl
@[simp] theorem setChannel_restart (s : State) (c : ChannelId) (v : ChannelStatus) : (s.setChannel c v).restart = s.restart := rfl
@[simp] theorem setChannel_row_of (s : State) (c : ChannelId) (v : ChannelStatus) (b : Addr) : (s.setChannel c v).row b = s.row b := rfl
@[simp] theorem setChannel_zoneConfig_of (s : State) (c : ChannelId) (v : ChannelStatus) (y : ZoneId) : (s.setChannel c v).zoneConfig y = s.zoneConfig y := rfl
@[simp] theorem setChannel_channelConfig_of (s : State) (c : ChannelId) (v : ChannelStatus) (d : ChannelId) : (s.setChannel c v).channelConfig d = s.channelConfig d := rfl
@[simp] theorem setChannel_isLum_of (s : State) (c : ChannelId) (v : ChannelStatus) (b : Addr) : (s.setChannel c v).isLum b = s.isLum b := rfl
@[simp] theorem setChannel_settings_of (s : State) (c : ChannelId) (v : ChannelStatus) : (s.setChannel c v).settings = s.settings := rfl
@[simp] theorem setChannel_lum_of (s : State) (c : ChannelId) (v : ChannelStatus) (b : Addr) : (s.setChannel c v).lum b = s.lum b := rfl
@[simp] theorem setChannel_zone_of (s : State) (c : ChannelId) (v : ChannelStatus) (y : ZoneId) : (s.setChannel c v).zone y = s.zone y := rfl

/-! ## setRow -/

@[simp] theorem setRow_pending (s : State) (a : Addr) (r : RowConfig) : (s.setRow a r).pending = s.pending := rfl
@[simp] theorem setRow_clock (s : State) (a : Addr) (r : RowConfig) : (s.setRow a r).clock = s.clock := rfl
@[simp] theorem setRow_subMs (s : State) (a : Addr) (r : RowConfig) : (s.setRow a r).subMs = s.subMs := rfl
@[simp] theorem setRow_portTime (s : State) (a : Addr) (r : RowConfig) : (s.setRow a r).portTime = s.portTime := rfl
@[simp] theorem setRow_segment (s : State) (a : Addr) (r : RowConfig) : (s.setRow a r).segment = s.segment := rfl
@[simp] theorem setRow_tables (s : State) (a : Addr) (r : RowConfig) : (s.setRow a r).tables = { s.tables with rowMap := s.tables.rowMap.set a.val r } := rfl
@[simp] theorem setRow_lums (s : State) (a : Addr) (r : RowConfig) : (s.setRow a r).lums = s.lums := rfl
@[simp] theorem setRow_pendingList (s : State) (a : Addr) (r : RowConfig) : (s.setRow a r).pendingList = s.pendingList := rfl
@[simp] theorem setRow_zones (s : State) (a : Addr) (r : RowConfig) : (s.setRow a r).zones = s.zones := rfl
@[simp] theorem setRow_channels (s : State) (a : Addr) (r : RowConfig) : (s.setRow a r).channels = s.channels := rfl
@[simp] theorem setRow_scan (s : State) (a : Addr) (r : RowConfig) : (s.setRow a r).scan = s.scan := rfl
@[simp] theorem setRow_power (s : State) (a : Addr) (r : RowConfig) : (s.setRow a r).power = s.power := rfl
@[simp] theorem setRow_rowTx (s : State) (a : Addr) (r : RowConfig) : (s.setRow a r).rowTx = s.rowTx := rfl
@[simp] theorem setRow_rowActivity (s : State) (a : Addr) (r : RowConfig) : (s.setRow a r).rowActivity = s.rowActivity := rfl
@[simp] theorem setRow_rowForeign (s : State) (a : Addr) (r : RowConfig) : (s.setRow a r).rowForeign = s.rowForeign := rfl
@[simp] theorem setRow_starvation (s : State) (a : Addr) (r : RowConfig) : (s.setRow a r).starvation = s.starvation := rfl
@[simp] theorem setRow_lowerTurn (s : State) (a : Addr) (r : RowConfig) : (s.setRow a r).lowerTurn = s.lowerTurn := rfl
@[simp] theorem setRow_emission (s : State) (a : Addr) (r : RowConfig) : (s.setRow a r).emission = s.emission := rfl
@[simp] theorem setRow_forward (s : State) (a : Addr) (r : RowConfig) : (s.setRow a r).forward = s.forward := rfl
@[simp] theorem setRow_lastTag (s : State) (a : Addr) (r : RowConfig) : (s.setRow a r).lastTag = s.lastTag := rfl
@[simp] theorem setRow_tagsInUse (s : State) (a : Addr) (r : RowConfig) : (s.setRow a r).tagsInUse = s.tagsInUse := rfl
@[simp] theorem setRow_upstream (s : State) (a : Addr) (r : RowConfig) : (s.setRow a r).upstream = s.upstream := rfl
@[simp] theorem setRow_noticesLost (s : State) (a : Addr) (r : RowConfig) : (s.setRow a r).noticesLost = s.noticesLost := rfl
@[simp] theorem setRow_lostSinceStart (s : State) (a : Addr) (r : RowConfig) : (s.setRow a r).lostSinceStart = s.lostSinceStart := rfl
@[simp] theorem setRow_trunkTx (s : State) (a : Addr) (r : RowConfig) : (s.setRow a r).trunkTx = s.trunkTx := rfl
@[simp] theorem setRow_answer (s : State) (a : Addr) (r : RowConfig) : (s.setRow a r).answer = s.answer := rfl
@[simp] theorem setRow_trunkIdle (s : State) (a : Addr) (r : RowConfig) : (s.setRow a r).trunkIdle = s.trunkIdle := rfl
@[simp] theorem setRow_counters (s : State) (a : Addr) (r : RowConfig) : (s.setRow a r).counters = s.counters := rfl
@[simp] theorem setRow_verify (s : State) (a : Addr) (r : RowConfig) : (s.setRow a r).verify = s.verify := rfl
@[simp] theorem setRow_store (s : State) (a : Addr) (r : RowConfig) : (s.setRow a r).store = s.store := rfl
@[simp] theorem setRow_snapshot (s : State) (a : Addr) (r : RowConfig) : (s.setRow a r).snapshot = s.snapshot := rfl
@[simp] theorem setRow_restart (s : State) (a : Addr) (r : RowConfig) : (s.setRow a r).restart = s.restart := rfl
@[simp] theorem setRow_lum_of (s : State) (a : Addr) (r : RowConfig) (b : Addr) : (s.setRow a r).lum b = s.lum b := rfl
@[simp] theorem setRow_zone_of (s : State) (a : Addr) (r : RowConfig) (y : ZoneId) : (s.setRow a r).zone y = s.zone y := rfl
@[simp] theorem setRow_channel_of (s : State) (a : Addr) (r : RowConfig) (d : ChannelId) : (s.setRow a r).channel d = s.channel d := rfl

/-! ## setZoneConfig -/

@[simp] theorem setZoneConfig_pending (s : State) (z : ZoneId) (v : ZoneConfig) : (s.setZoneConfig z v).pending = s.pending := rfl
@[simp] theorem setZoneConfig_clock (s : State) (z : ZoneId) (v : ZoneConfig) : (s.setZoneConfig z v).clock = s.clock := rfl
@[simp] theorem setZoneConfig_subMs (s : State) (z : ZoneId) (v : ZoneConfig) : (s.setZoneConfig z v).subMs = s.subMs := rfl
@[simp] theorem setZoneConfig_portTime (s : State) (z : ZoneId) (v : ZoneConfig) : (s.setZoneConfig z v).portTime = s.portTime := rfl
@[simp] theorem setZoneConfig_segment (s : State) (z : ZoneId) (v : ZoneConfig) : (s.setZoneConfig z v).segment = s.segment := rfl
@[simp] theorem setZoneConfig_tables (s : State) (z : ZoneId) (v : ZoneConfig) : (s.setZoneConfig z v).tables = { s.tables with zones := s.tables.zones.set z.val v } := rfl
@[simp] theorem setZoneConfig_lums (s : State) (z : ZoneId) (v : ZoneConfig) : (s.setZoneConfig z v).lums = s.lums := rfl
@[simp] theorem setZoneConfig_pendingList (s : State) (z : ZoneId) (v : ZoneConfig) : (s.setZoneConfig z v).pendingList = s.pendingList := rfl
@[simp] theorem setZoneConfig_zones (s : State) (z : ZoneId) (v : ZoneConfig) : (s.setZoneConfig z v).zones = s.zones := rfl
@[simp] theorem setZoneConfig_channels (s : State) (z : ZoneId) (v : ZoneConfig) : (s.setZoneConfig z v).channels = s.channels := rfl
@[simp] theorem setZoneConfig_scan (s : State) (z : ZoneId) (v : ZoneConfig) : (s.setZoneConfig z v).scan = s.scan := rfl
@[simp] theorem setZoneConfig_power (s : State) (z : ZoneId) (v : ZoneConfig) : (s.setZoneConfig z v).power = s.power := rfl
@[simp] theorem setZoneConfig_rowTx (s : State) (z : ZoneId) (v : ZoneConfig) : (s.setZoneConfig z v).rowTx = s.rowTx := rfl
@[simp] theorem setZoneConfig_rowActivity (s : State) (z : ZoneId) (v : ZoneConfig) : (s.setZoneConfig z v).rowActivity = s.rowActivity := rfl
@[simp] theorem setZoneConfig_rowForeign (s : State) (z : ZoneId) (v : ZoneConfig) : (s.setZoneConfig z v).rowForeign = s.rowForeign := rfl
@[simp] theorem setZoneConfig_starvation (s : State) (z : ZoneId) (v : ZoneConfig) : (s.setZoneConfig z v).starvation = s.starvation := rfl
@[simp] theorem setZoneConfig_lowerTurn (s : State) (z : ZoneId) (v : ZoneConfig) : (s.setZoneConfig z v).lowerTurn = s.lowerTurn := rfl
@[simp] theorem setZoneConfig_emission (s : State) (z : ZoneId) (v : ZoneConfig) : (s.setZoneConfig z v).emission = s.emission := rfl
@[simp] theorem setZoneConfig_forward (s : State) (z : ZoneId) (v : ZoneConfig) : (s.setZoneConfig z v).forward = s.forward := rfl
@[simp] theorem setZoneConfig_lastTag (s : State) (z : ZoneId) (v : ZoneConfig) : (s.setZoneConfig z v).lastTag = s.lastTag := rfl
@[simp] theorem setZoneConfig_tagsInUse (s : State) (z : ZoneId) (v : ZoneConfig) : (s.setZoneConfig z v).tagsInUse = s.tagsInUse := rfl
@[simp] theorem setZoneConfig_upstream (s : State) (z : ZoneId) (v : ZoneConfig) : (s.setZoneConfig z v).upstream = s.upstream := rfl
@[simp] theorem setZoneConfig_noticesLost (s : State) (z : ZoneId) (v : ZoneConfig) : (s.setZoneConfig z v).noticesLost = s.noticesLost := rfl
@[simp] theorem setZoneConfig_lostSinceStart (s : State) (z : ZoneId) (v : ZoneConfig) : (s.setZoneConfig z v).lostSinceStart = s.lostSinceStart := rfl
@[simp] theorem setZoneConfig_trunkTx (s : State) (z : ZoneId) (v : ZoneConfig) : (s.setZoneConfig z v).trunkTx = s.trunkTx := rfl
@[simp] theorem setZoneConfig_answer (s : State) (z : ZoneId) (v : ZoneConfig) : (s.setZoneConfig z v).answer = s.answer := rfl
@[simp] theorem setZoneConfig_trunkIdle (s : State) (z : ZoneId) (v : ZoneConfig) : (s.setZoneConfig z v).trunkIdle = s.trunkIdle := rfl
@[simp] theorem setZoneConfig_counters (s : State) (z : ZoneId) (v : ZoneConfig) : (s.setZoneConfig z v).counters = s.counters := rfl
@[simp] theorem setZoneConfig_verify (s : State) (z : ZoneId) (v : ZoneConfig) : (s.setZoneConfig z v).verify = s.verify := rfl
@[simp] theorem setZoneConfig_store (s : State) (z : ZoneId) (v : ZoneConfig) : (s.setZoneConfig z v).store = s.store := rfl
@[simp] theorem setZoneConfig_snapshot (s : State) (z : ZoneId) (v : ZoneConfig) : (s.setZoneConfig z v).snapshot = s.snapshot := rfl
@[simp] theorem setZoneConfig_restart (s : State) (z : ZoneId) (v : ZoneConfig) : (s.setZoneConfig z v).restart = s.restart := rfl
@[simp] theorem setZoneConfig_lum_of (s : State) (z : ZoneId) (v : ZoneConfig) (b : Addr) : (s.setZoneConfig z v).lum b = s.lum b := rfl
@[simp] theorem setZoneConfig_zone_of (s : State) (z : ZoneId) (v : ZoneConfig) (y : ZoneId) : (s.setZoneConfig z v).zone y = s.zone y := rfl
@[simp] theorem setZoneConfig_channel_of (s : State) (z : ZoneId) (v : ZoneConfig) (d : ChannelId) : (s.setZoneConfig z v).channel d = s.channel d := rfl

/-! ## setChannelConfig -/

@[simp] theorem setChannelConfig_pending (s : State) (c : ChannelId) (v : ChannelConfig) : (s.setChannelConfig c v).pending = s.pending := rfl
@[simp] theorem setChannelConfig_clock (s : State) (c : ChannelId) (v : ChannelConfig) : (s.setChannelConfig c v).clock = s.clock := rfl
@[simp] theorem setChannelConfig_subMs (s : State) (c : ChannelId) (v : ChannelConfig) : (s.setChannelConfig c v).subMs = s.subMs := rfl
@[simp] theorem setChannelConfig_portTime (s : State) (c : ChannelId) (v : ChannelConfig) : (s.setChannelConfig c v).portTime = s.portTime := rfl
@[simp] theorem setChannelConfig_segment (s : State) (c : ChannelId) (v : ChannelConfig) : (s.setChannelConfig c v).segment = s.segment := rfl
@[simp] theorem setChannelConfig_tables (s : State) (c : ChannelId) (v : ChannelConfig) : (s.setChannelConfig c v).tables = { s.tables with channels := s.tables.channels.set c.val v } := rfl
@[simp] theorem setChannelConfig_lums (s : State) (c : ChannelId) (v : ChannelConfig) : (s.setChannelConfig c v).lums = s.lums := rfl
@[simp] theorem setChannelConfig_pendingList (s : State) (c : ChannelId) (v : ChannelConfig) : (s.setChannelConfig c v).pendingList = s.pendingList := rfl
@[simp] theorem setChannelConfig_zones (s : State) (c : ChannelId) (v : ChannelConfig) : (s.setChannelConfig c v).zones = s.zones := rfl
@[simp] theorem setChannelConfig_channels (s : State) (c : ChannelId) (v : ChannelConfig) : (s.setChannelConfig c v).channels = s.channels := rfl
@[simp] theorem setChannelConfig_scan (s : State) (c : ChannelId) (v : ChannelConfig) : (s.setChannelConfig c v).scan = s.scan := rfl
@[simp] theorem setChannelConfig_power (s : State) (c : ChannelId) (v : ChannelConfig) : (s.setChannelConfig c v).power = s.power := rfl
@[simp] theorem setChannelConfig_rowTx (s : State) (c : ChannelId) (v : ChannelConfig) : (s.setChannelConfig c v).rowTx = s.rowTx := rfl
@[simp] theorem setChannelConfig_rowActivity (s : State) (c : ChannelId) (v : ChannelConfig) : (s.setChannelConfig c v).rowActivity = s.rowActivity := rfl
@[simp] theorem setChannelConfig_rowForeign (s : State) (c : ChannelId) (v : ChannelConfig) : (s.setChannelConfig c v).rowForeign = s.rowForeign := rfl
@[simp] theorem setChannelConfig_starvation (s : State) (c : ChannelId) (v : ChannelConfig) : (s.setChannelConfig c v).starvation = s.starvation := rfl
@[simp] theorem setChannelConfig_lowerTurn (s : State) (c : ChannelId) (v : ChannelConfig) : (s.setChannelConfig c v).lowerTurn = s.lowerTurn := rfl
@[simp] theorem setChannelConfig_emission (s : State) (c : ChannelId) (v : ChannelConfig) : (s.setChannelConfig c v).emission = s.emission := rfl
@[simp] theorem setChannelConfig_forward (s : State) (c : ChannelId) (v : ChannelConfig) : (s.setChannelConfig c v).forward = s.forward := rfl
@[simp] theorem setChannelConfig_lastTag (s : State) (c : ChannelId) (v : ChannelConfig) : (s.setChannelConfig c v).lastTag = s.lastTag := rfl
@[simp] theorem setChannelConfig_tagsInUse (s : State) (c : ChannelId) (v : ChannelConfig) : (s.setChannelConfig c v).tagsInUse = s.tagsInUse := rfl
@[simp] theorem setChannelConfig_upstream (s : State) (c : ChannelId) (v : ChannelConfig) : (s.setChannelConfig c v).upstream = s.upstream := rfl
@[simp] theorem setChannelConfig_noticesLost (s : State) (c : ChannelId) (v : ChannelConfig) : (s.setChannelConfig c v).noticesLost = s.noticesLost := rfl
@[simp] theorem setChannelConfig_lostSinceStart (s : State) (c : ChannelId) (v : ChannelConfig) : (s.setChannelConfig c v).lostSinceStart = s.lostSinceStart := rfl
@[simp] theorem setChannelConfig_trunkTx (s : State) (c : ChannelId) (v : ChannelConfig) : (s.setChannelConfig c v).trunkTx = s.trunkTx := rfl
@[simp] theorem setChannelConfig_answer (s : State) (c : ChannelId) (v : ChannelConfig) : (s.setChannelConfig c v).answer = s.answer := rfl
@[simp] theorem setChannelConfig_trunkIdle (s : State) (c : ChannelId) (v : ChannelConfig) : (s.setChannelConfig c v).trunkIdle = s.trunkIdle := rfl
@[simp] theorem setChannelConfig_counters (s : State) (c : ChannelId) (v : ChannelConfig) : (s.setChannelConfig c v).counters = s.counters := rfl
@[simp] theorem setChannelConfig_verify (s : State) (c : ChannelId) (v : ChannelConfig) : (s.setChannelConfig c v).verify = s.verify := rfl
@[simp] theorem setChannelConfig_store (s : State) (c : ChannelId) (v : ChannelConfig) : (s.setChannelConfig c v).store = s.store := rfl
@[simp] theorem setChannelConfig_snapshot (s : State) (c : ChannelId) (v : ChannelConfig) : (s.setChannelConfig c v).snapshot = s.snapshot := rfl
@[simp] theorem setChannelConfig_restart (s : State) (c : ChannelId) (v : ChannelConfig) : (s.setChannelConfig c v).restart = s.restart := rfl
@[simp] theorem setChannelConfig_lum_of (s : State) (c : ChannelId) (v : ChannelConfig) (b : Addr) : (s.setChannelConfig c v).lum b = s.lum b := rfl
@[simp] theorem setChannelConfig_zone_of (s : State) (c : ChannelId) (v : ChannelConfig) (y : ZoneId) : (s.setChannelConfig c v).zone y = s.zone y := rfl
@[simp] theorem setChannelConfig_channel_of (s : State) (c : ChannelId) (v : ChannelConfig) (d : ChannelId) : (s.setChannelConfig c v).channel d = s.channel d := rfl

/-! ## answerWith -/

@[simp] theorem answerWith_pending (f : Frame) (s : State) : (answerWith f s).pending = s.pending := rfl
@[simp] theorem answerWith_clock (f : Frame) (s : State) : (answerWith f s).clock = s.clock := rfl
@[simp] theorem answerWith_subMs (f : Frame) (s : State) : (answerWith f s).subMs = s.subMs := rfl
@[simp] theorem answerWith_portTime (f : Frame) (s : State) : (answerWith f s).portTime = s.portTime := rfl
@[simp] theorem answerWith_segment (f : Frame) (s : State) : (answerWith f s).segment = s.segment := rfl
@[simp] theorem answerWith_tables (f : Frame) (s : State) : (answerWith f s).tables = s.tables := rfl
@[simp] theorem answerWith_lums (f : Frame) (s : State) : (answerWith f s).lums = s.lums := rfl
@[simp] theorem answerWith_pendingList (f : Frame) (s : State) : (answerWith f s).pendingList = s.pendingList := rfl
@[simp] theorem answerWith_zones (f : Frame) (s : State) : (answerWith f s).zones = s.zones := rfl
@[simp] theorem answerWith_channels (f : Frame) (s : State) : (answerWith f s).channels = s.channels := rfl
@[simp] theorem answerWith_scan (f : Frame) (s : State) : (answerWith f s).scan = s.scan := rfl
@[simp] theorem answerWith_power (f : Frame) (s : State) : (answerWith f s).power = s.power := rfl
@[simp] theorem answerWith_rowTx (f : Frame) (s : State) : (answerWith f s).rowTx = s.rowTx := rfl
@[simp] theorem answerWith_rowActivity (f : Frame) (s : State) : (answerWith f s).rowActivity = s.rowActivity := rfl
@[simp] theorem answerWith_rowForeign (f : Frame) (s : State) : (answerWith f s).rowForeign = s.rowForeign := rfl
@[simp] theorem answerWith_starvation (f : Frame) (s : State) : (answerWith f s).starvation = s.starvation := rfl
@[simp] theorem answerWith_lowerTurn (f : Frame) (s : State) : (answerWith f s).lowerTurn = s.lowerTurn := rfl
@[simp] theorem answerWith_emission (f : Frame) (s : State) : (answerWith f s).emission = s.emission := rfl
@[simp] theorem answerWith_forward (f : Frame) (s : State) : (answerWith f s).forward = s.forward := rfl
@[simp] theorem answerWith_lastTag (f : Frame) (s : State) : (answerWith f s).lastTag = s.lastTag := rfl
@[simp] theorem answerWith_tagsInUse (f : Frame) (s : State) : (answerWith f s).tagsInUse = s.tagsInUse := rfl
@[simp] theorem answerWith_upstream (f : Frame) (s : State) : (answerWith f s).upstream = s.upstream := rfl
@[simp] theorem answerWith_noticesLost (f : Frame) (s : State) : (answerWith f s).noticesLost = s.noticesLost := rfl
@[simp] theorem answerWith_lostSinceStart (f : Frame) (s : State) : (answerWith f s).lostSinceStart = s.lostSinceStart := rfl
@[simp] theorem answerWith_trunkTx (f : Frame) (s : State) : (answerWith f s).trunkTx = s.trunkTx := rfl
@[simp] theorem answerWith_answer (f : Frame) (s : State) : (answerWith f s).answer = some ⟨f, s.portTime⟩ := rfl
@[simp] theorem answerWith_trunkIdle (f : Frame) (s : State) : (answerWith f s).trunkIdle = s.trunkIdle := rfl
@[simp] theorem answerWith_counters (f : Frame) (s : State) : (answerWith f s).counters = s.counters := rfl
@[simp] theorem answerWith_verify (f : Frame) (s : State) : (answerWith f s).verify = s.verify := rfl
@[simp] theorem answerWith_store (f : Frame) (s : State) : (answerWith f s).store = s.store := rfl
@[simp] theorem answerWith_snapshot (f : Frame) (s : State) : (answerWith f s).snapshot = s.snapshot := rfl
@[simp] theorem answerWith_restart (f : Frame) (s : State) : (answerWith f s).restart = s.restart := rfl
@[simp] theorem answerWith_row_of (f : Frame) (s : State) (b : Addr) : (answerWith f s).row b = s.row b := rfl
@[simp] theorem answerWith_zoneConfig_of (f : Frame) (s : State) (y : ZoneId) : (answerWith f s).zoneConfig y = s.zoneConfig y := rfl
@[simp] theorem answerWith_channelConfig_of (f : Frame) (s : State) (d : ChannelId) : (answerWith f s).channelConfig d = s.channelConfig d := rfl
@[simp] theorem answerWith_isLum_of (f : Frame) (s : State) (b : Addr) : (answerWith f s).isLum b = s.isLum b := rfl
@[simp] theorem answerWith_settings_of (f : Frame) (s : State) : (answerWith f s).settings = s.settings := rfl
@[simp] theorem answerWith_lum_of (f : Frame) (s : State) (b : Addr) : (answerWith f s).lum b = s.lum b := rfl
@[simp] theorem answerWith_zone_of (f : Frame) (s : State) (y : ZoneId) : (answerWith f s).zone y = s.zone y := rfl
@[simp] theorem answerWith_channel_of (f : Frame) (s : State) (d : ChannelId) : (answerWith f s).channel d = s.channel d := rfl

/-! ## enterGap -/

@[simp] theorem enterGap_pending (s : State) : (enterGap s).pending = s.pending := rfl
@[simp] theorem enterGap_clock (s : State) : (enterGap s).clock = s.clock := rfl
@[simp] theorem enterGap_subMs (s : State) : (enterGap s).subMs = s.subMs := rfl
@[simp] theorem enterGap_portTime (s : State) : (enterGap s).portTime = s.portTime := rfl
@[simp] theorem enterGap_segment (s : State) : (enterGap s).segment = s.segment := rfl
@[simp] theorem enterGap_tables (s : State) : (enterGap s).tables = s.tables := rfl
@[simp] theorem enterGap_lums (s : State) : (enterGap s).lums = s.lums := rfl
@[simp] theorem enterGap_pendingList (s : State) : (enterGap s).pendingList = s.pendingList := rfl
@[simp] theorem enterGap_zones (s : State) : (enterGap s).zones = s.zones := rfl
@[simp] theorem enterGap_channels (s : State) : (enterGap s).channels = s.channels := rfl
@[simp] theorem enterGap_scan (s : State) : (enterGap s).scan = s.scan := rfl
@[simp] theorem enterGap_power (s : State) : (enterGap s).power = s.power := rfl
@[simp] theorem enterGap_rowTx (s : State) : (enterGap s).rowTx = .gap := rfl
@[simp] theorem enterGap_rowActivity (s : State) : (enterGap s).rowActivity = s.portTime := rfl
@[simp] theorem enterGap_rowForeign (s : State) : (enterGap s).rowForeign = s.rowForeign := rfl
@[simp] theorem enterGap_starvation (s : State) : (enterGap s).starvation = s.starvation := rfl
@[simp] theorem enterGap_lowerTurn (s : State) : (enterGap s).lowerTurn = s.lowerTurn := rfl
@[simp] theorem enterGap_emission (s : State) : (enterGap s).emission = s.emission := rfl
@[simp] theorem enterGap_forward (s : State) : (enterGap s).forward = s.forward := rfl
@[simp] theorem enterGap_lastTag (s : State) : (enterGap s).lastTag = s.lastTag := rfl
@[simp] theorem enterGap_tagsInUse (s : State) : (enterGap s).tagsInUse = s.tagsInUse := rfl
@[simp] theorem enterGap_upstream (s : State) : (enterGap s).upstream = s.upstream := rfl
@[simp] theorem enterGap_noticesLost (s : State) : (enterGap s).noticesLost = s.noticesLost := rfl
@[simp] theorem enterGap_lostSinceStart (s : State) : (enterGap s).lostSinceStart = s.lostSinceStart := rfl
@[simp] theorem enterGap_trunkTx (s : State) : (enterGap s).trunkTx = s.trunkTx := rfl
@[simp] theorem enterGap_answer (s : State) : (enterGap s).answer = s.answer := rfl
@[simp] theorem enterGap_trunkIdle (s : State) : (enterGap s).trunkIdle = s.trunkIdle := rfl
@[simp] theorem enterGap_counters (s : State) : (enterGap s).counters = s.counters := rfl
@[simp] theorem enterGap_verify (s : State) : (enterGap s).verify = s.verify := rfl
@[simp] theorem enterGap_store (s : State) : (enterGap s).store = s.store := rfl
@[simp] theorem enterGap_snapshot (s : State) : (enterGap s).snapshot = s.snapshot := rfl
@[simp] theorem enterGap_restart (s : State) : (enterGap s).restart = s.restart := rfl
@[simp] theorem enterGap_row_of (s : State) (b : Addr) : (enterGap s).row b = s.row b := rfl
@[simp] theorem enterGap_zoneConfig_of (s : State) (y : ZoneId) : (enterGap s).zoneConfig y = s.zoneConfig y := rfl
@[simp] theorem enterGap_channelConfig_of (s : State) (d : ChannelId) : (enterGap s).channelConfig d = s.channelConfig d := rfl
@[simp] theorem enterGap_isLum_of (s : State) (b : Addr) : (enterGap s).isLum b = s.isLum b := rfl
@[simp] theorem enterGap_settings_of (s : State) : (enterGap s).settings = s.settings := rfl
@[simp] theorem enterGap_lum_of (s : State) (b : Addr) : (enterGap s).lum b = s.lum b := rfl
@[simp] theorem enterGap_zone_of (s : State) (y : ZoneId) : (enterGap s).zone y = s.zone y := rfl
@[simp] theorem enterGap_channel_of (s : State) (d : ChannelId) : (enterGap s).channel d = s.channel d := rfl

/-! ## startRow -/

@[simp] theorem startRow_pending (f : Frame) (o : RowOwner) (s : State) : (startRow f o s).pending = s.pending := rfl
@[simp] theorem startRow_clock (f : Frame) (o : RowOwner) (s : State) : (startRow f o s).clock = s.clock := rfl
@[simp] theorem startRow_subMs (f : Frame) (o : RowOwner) (s : State) : (startRow f o s).subMs = s.subMs := rfl
@[simp] theorem startRow_portTime (f : Frame) (o : RowOwner) (s : State) : (startRow f o s).portTime = s.portTime := rfl
@[simp] theorem startRow_segment (f : Frame) (o : RowOwner) (s : State) : (startRow f o s).segment = s.segment := rfl
@[simp] theorem startRow_tables (f : Frame) (o : RowOwner) (s : State) : (startRow f o s).tables = s.tables := rfl
@[simp] theorem startRow_lums (f : Frame) (o : RowOwner) (s : State) : (startRow f o s).lums = s.lums := rfl
@[simp] theorem startRow_pendingList (f : Frame) (o : RowOwner) (s : State) : (startRow f o s).pendingList = s.pendingList := rfl
@[simp] theorem startRow_zones (f : Frame) (o : RowOwner) (s : State) : (startRow f o s).zones = s.zones := rfl
@[simp] theorem startRow_channels (f : Frame) (o : RowOwner) (s : State) : (startRow f o s).channels = s.channels := rfl
@[simp] theorem startRow_scan (f : Frame) (o : RowOwner) (s : State) : (startRow f o s).scan = s.scan := rfl
@[simp] theorem startRow_power (f : Frame) (o : RowOwner) (s : State) : (startRow f o s).power = s.power := rfl
@[simp] theorem startRow_rowTx (f : Frame) (o : RowOwner) (s : State) : (startRow f o s).rowTx = .onRow ⟨f, o, s.portTime⟩ := rfl
@[simp] theorem startRow_rowActivity (f : Frame) (o : RowOwner) (s : State) : (startRow f o s).rowActivity = s.rowActivity := rfl
@[simp] theorem startRow_rowForeign (f : Frame) (o : RowOwner) (s : State) : (startRow f o s).rowForeign = s.rowForeign := rfl
@[simp] theorem startRow_starvation (f : Frame) (o : RowOwner) (s : State) : (startRow f o s).starvation = s.starvation := rfl
@[simp] theorem startRow_lowerTurn (f : Frame) (o : RowOwner) (s : State) : (startRow f o s).lowerTurn = s.lowerTurn := rfl
@[simp] theorem startRow_emission (f : Frame) (o : RowOwner) (s : State) : (startRow f o s).emission = s.emission := rfl
@[simp] theorem startRow_forward (f : Frame) (o : RowOwner) (s : State) : (startRow f o s).forward = s.forward := rfl
@[simp] theorem startRow_lastTag (f : Frame) (o : RowOwner) (s : State) : (startRow f o s).lastTag = s.lastTag := rfl
@[simp] theorem startRow_tagsInUse (f : Frame) (o : RowOwner) (s : State) : (startRow f o s).tagsInUse = s.tagsInUse := rfl
@[simp] theorem startRow_upstream (f : Frame) (o : RowOwner) (s : State) : (startRow f o s).upstream = s.upstream := rfl
@[simp] theorem startRow_noticesLost (f : Frame) (o : RowOwner) (s : State) : (startRow f o s).noticesLost = s.noticesLost := rfl
@[simp] theorem startRow_lostSinceStart (f : Frame) (o : RowOwner) (s : State) : (startRow f o s).lostSinceStart = s.lostSinceStart := rfl
@[simp] theorem startRow_trunkTx (f : Frame) (o : RowOwner) (s : State) : (startRow f o s).trunkTx = s.trunkTx := rfl
@[simp] theorem startRow_answer (f : Frame) (o : RowOwner) (s : State) : (startRow f o s).answer = s.answer := rfl
@[simp] theorem startRow_trunkIdle (f : Frame) (o : RowOwner) (s : State) : (startRow f o s).trunkIdle = s.trunkIdle := rfl
@[simp] theorem startRow_counters (f : Frame) (o : RowOwner) (s : State) : (startRow f o s).counters = s.counters := rfl
@[simp] theorem startRow_verify (f : Frame) (o : RowOwner) (s : State) : (startRow f o s).verify = s.verify := rfl
@[simp] theorem startRow_store (f : Frame) (o : RowOwner) (s : State) : (startRow f o s).store = s.store := rfl
@[simp] theorem startRow_snapshot (f : Frame) (o : RowOwner) (s : State) : (startRow f o s).snapshot = s.snapshot := rfl
@[simp] theorem startRow_restart (f : Frame) (o : RowOwner) (s : State) : (startRow f o s).restart = s.restart := rfl
@[simp] theorem startRow_row_of (f : Frame) (o : RowOwner) (s : State) (b : Addr) : (startRow f o s).row b = s.row b := rfl
@[simp] theorem startRow_zoneConfig_of (f : Frame) (o : RowOwner) (s : State) (y : ZoneId) : (startRow f o s).zoneConfig y = s.zoneConfig y := rfl
@[simp] theorem startRow_channelConfig_of (f : Frame) (o : RowOwner) (s : State) (d : ChannelId) : (startRow f o s).channelConfig d = s.channelConfig d := rfl
@[simp] theorem startRow_isLum_of (f : Frame) (o : RowOwner) (s : State) (b : Addr) : (startRow f o s).isLum b = s.isLum b := rfl
@[simp] theorem startRow_settings_of (f : Frame) (o : RowOwner) (s : State) : (startRow f o s).settings = s.settings := rfl
@[simp] theorem startRow_lum_of (f : Frame) (o : RowOwner) (s : State) (b : Addr) : (startRow f o s).lum b = s.lum b := rfl
@[simp] theorem startRow_zone_of (f : Frame) (o : RowOwner) (s : State) (y : ZoneId) : (startRow f o s).zone y = s.zone y := rfl
@[simp] theorem startRow_channel_of (f : Frame) (o : RowOwner) (s : State) (d : ChannelId) : (startRow f o s).channel d = s.channel d := rfl

/-! ## joinPending -/

@[simp] theorem joinPending_pending (a : Addr) (s : State) : (joinPending a s).pending = s.pending := rfl
@[simp] theorem joinPending_clock (a : Addr) (s : State) : (joinPending a s).clock = s.clock := rfl
@[simp] theorem joinPending_subMs (a : Addr) (s : State) : (joinPending a s).subMs = s.subMs := rfl
@[simp] theorem joinPending_portTime (a : Addr) (s : State) : (joinPending a s).portTime = s.portTime := rfl
@[simp] theorem joinPending_segment (a : Addr) (s : State) : (joinPending a s).segment = s.segment := rfl
@[simp] theorem joinPending_tables (a : Addr) (s : State) : (joinPending a s).tables = s.tables := rfl
@[simp] theorem joinPending_lums (a : Addr) (s : State) : (joinPending a s).lums = s.lums := rfl
@[simp] theorem joinPending_pendingList (a : Addr) (s : State) : (joinPending a s).pendingList = s.pendingList ++ [a] := rfl
@[simp] theorem joinPending_zones (a : Addr) (s : State) : (joinPending a s).zones = s.zones := rfl
@[simp] theorem joinPending_channels (a : Addr) (s : State) : (joinPending a s).channels = s.channels := rfl
@[simp] theorem joinPending_scan (a : Addr) (s : State) : (joinPending a s).scan = s.scan := rfl
@[simp] theorem joinPending_power (a : Addr) (s : State) : (joinPending a s).power = s.power := rfl
@[simp] theorem joinPending_rowTx (a : Addr) (s : State) : (joinPending a s).rowTx = s.rowTx := rfl
@[simp] theorem joinPending_rowActivity (a : Addr) (s : State) : (joinPending a s).rowActivity = s.rowActivity := rfl
@[simp] theorem joinPending_rowForeign (a : Addr) (s : State) : (joinPending a s).rowForeign = s.rowForeign := rfl
@[simp] theorem joinPending_starvation (a : Addr) (s : State) : (joinPending a s).starvation = s.starvation := rfl
@[simp] theorem joinPending_lowerTurn (a : Addr) (s : State) : (joinPending a s).lowerTurn = s.lowerTurn := rfl
@[simp] theorem joinPending_emission (a : Addr) (s : State) : (joinPending a s).emission = s.emission := rfl
@[simp] theorem joinPending_forward (a : Addr) (s : State) : (joinPending a s).forward = s.forward := rfl
@[simp] theorem joinPending_lastTag (a : Addr) (s : State) : (joinPending a s).lastTag = s.lastTag := rfl
@[simp] theorem joinPending_tagsInUse (a : Addr) (s : State) : (joinPending a s).tagsInUse = s.tagsInUse := rfl
@[simp] theorem joinPending_upstream (a : Addr) (s : State) : (joinPending a s).upstream = s.upstream := rfl
@[simp] theorem joinPending_noticesLost (a : Addr) (s : State) : (joinPending a s).noticesLost = s.noticesLost := rfl
@[simp] theorem joinPending_lostSinceStart (a : Addr) (s : State) : (joinPending a s).lostSinceStart = s.lostSinceStart := rfl
@[simp] theorem joinPending_trunkTx (a : Addr) (s : State) : (joinPending a s).trunkTx = s.trunkTx := rfl
@[simp] theorem joinPending_answer (a : Addr) (s : State) : (joinPending a s).answer = s.answer := rfl
@[simp] theorem joinPending_trunkIdle (a : Addr) (s : State) : (joinPending a s).trunkIdle = s.trunkIdle := rfl
@[simp] theorem joinPending_counters (a : Addr) (s : State) : (joinPending a s).counters = s.counters := rfl
@[simp] theorem joinPending_verify (a : Addr) (s : State) : (joinPending a s).verify = s.verify := rfl
@[simp] theorem joinPending_store (a : Addr) (s : State) : (joinPending a s).store = s.store := rfl
@[simp] theorem joinPending_snapshot (a : Addr) (s : State) : (joinPending a s).snapshot = s.snapshot := rfl
@[simp] theorem joinPending_restart (a : Addr) (s : State) : (joinPending a s).restart = s.restart := rfl
@[simp] theorem joinPending_row_of (a : Addr) (s : State) (b : Addr) : (joinPending a s).row b = s.row b := rfl
@[simp] theorem joinPending_zoneConfig_of (a : Addr) (s : State) (y : ZoneId) : (joinPending a s).zoneConfig y = s.zoneConfig y := rfl
@[simp] theorem joinPending_channelConfig_of (a : Addr) (s : State) (d : ChannelId) : (joinPending a s).channelConfig d = s.channelConfig d := rfl
@[simp] theorem joinPending_isLum_of (a : Addr) (s : State) (b : Addr) : (joinPending a s).isLum b = s.isLum b := rfl
@[simp] theorem joinPending_settings_of (a : Addr) (s : State) : (joinPending a s).settings = s.settings := rfl
@[simp] theorem joinPending_lum_of (a : Addr) (s : State) (b : Addr) : (joinPending a s).lum b = s.lum b := rfl
@[simp] theorem joinPending_zone_of (a : Addr) (s : State) (y : ZoneId) : (joinPending a s).zone y = s.zone y := rfl
@[simp] theorem joinPending_channel_of (a : Addr) (s : State) (d : ChannelId) : (joinPending a s).channel d = s.channel d := rfl

/-! ## leavePending -/

@[simp] theorem leavePending_pending (a : Addr) (s : State) : (leavePending a s).pending = s.pending := rfl
@[simp] theorem leavePending_clock (a : Addr) (s : State) : (leavePending a s).clock = s.clock := rfl
@[simp] theorem leavePending_subMs (a : Addr) (s : State) : (leavePending a s).subMs = s.subMs := rfl
@[simp] theorem leavePending_portTime (a : Addr) (s : State) : (leavePending a s).portTime = s.portTime := rfl
@[simp] theorem leavePending_segment (a : Addr) (s : State) : (leavePending a s).segment = s.segment := rfl
@[simp] theorem leavePending_tables (a : Addr) (s : State) : (leavePending a s).tables = s.tables := rfl
@[simp] theorem leavePending_lums (a : Addr) (s : State) : (leavePending a s).lums = s.lums := rfl
@[simp] theorem leavePending_pendingList (a : Addr) (s : State) : (leavePending a s).pendingList = s.pendingList.erase a := rfl
@[simp] theorem leavePending_zones (a : Addr) (s : State) : (leavePending a s).zones = s.zones := rfl
@[simp] theorem leavePending_channels (a : Addr) (s : State) : (leavePending a s).channels = s.channels := rfl
@[simp] theorem leavePending_scan (a : Addr) (s : State) : (leavePending a s).scan = s.scan := rfl
@[simp] theorem leavePending_power (a : Addr) (s : State) : (leavePending a s).power = s.power := rfl
@[simp] theorem leavePending_rowTx (a : Addr) (s : State) : (leavePending a s).rowTx = s.rowTx := rfl
@[simp] theorem leavePending_rowActivity (a : Addr) (s : State) : (leavePending a s).rowActivity = s.rowActivity := rfl
@[simp] theorem leavePending_rowForeign (a : Addr) (s : State) : (leavePending a s).rowForeign = s.rowForeign := rfl
@[simp] theorem leavePending_starvation (a : Addr) (s : State) : (leavePending a s).starvation = s.starvation := rfl
@[simp] theorem leavePending_lowerTurn (a : Addr) (s : State) : (leavePending a s).lowerTurn = s.lowerTurn := rfl
@[simp] theorem leavePending_emission (a : Addr) (s : State) : (leavePending a s).emission = s.emission := rfl
@[simp] theorem leavePending_forward (a : Addr) (s : State) : (leavePending a s).forward = s.forward := rfl
@[simp] theorem leavePending_lastTag (a : Addr) (s : State) : (leavePending a s).lastTag = s.lastTag := rfl
@[simp] theorem leavePending_tagsInUse (a : Addr) (s : State) : (leavePending a s).tagsInUse = s.tagsInUse := rfl
@[simp] theorem leavePending_upstream (a : Addr) (s : State) : (leavePending a s).upstream = s.upstream := rfl
@[simp] theorem leavePending_noticesLost (a : Addr) (s : State) : (leavePending a s).noticesLost = s.noticesLost := rfl
@[simp] theorem leavePending_lostSinceStart (a : Addr) (s : State) : (leavePending a s).lostSinceStart = s.lostSinceStart := rfl
@[simp] theorem leavePending_trunkTx (a : Addr) (s : State) : (leavePending a s).trunkTx = s.trunkTx := rfl
@[simp] theorem leavePending_answer (a : Addr) (s : State) : (leavePending a s).answer = s.answer := rfl
@[simp] theorem leavePending_trunkIdle (a : Addr) (s : State) : (leavePending a s).trunkIdle = s.trunkIdle := rfl
@[simp] theorem leavePending_counters (a : Addr) (s : State) : (leavePending a s).counters = s.counters := rfl
@[simp] theorem leavePending_verify (a : Addr) (s : State) : (leavePending a s).verify = s.verify := rfl
@[simp] theorem leavePending_store (a : Addr) (s : State) : (leavePending a s).store = s.store := rfl
@[simp] theorem leavePending_snapshot (a : Addr) (s : State) : (leavePending a s).snapshot = s.snapshot := rfl
@[simp] theorem leavePending_restart (a : Addr) (s : State) : (leavePending a s).restart = s.restart := rfl
@[simp] theorem leavePending_row_of (a : Addr) (s : State) (b : Addr) : (leavePending a s).row b = s.row b := rfl
@[simp] theorem leavePending_zoneConfig_of (a : Addr) (s : State) (y : ZoneId) : (leavePending a s).zoneConfig y = s.zoneConfig y := rfl
@[simp] theorem leavePending_channelConfig_of (a : Addr) (s : State) (d : ChannelId) : (leavePending a s).channelConfig d = s.channelConfig d := rfl
@[simp] theorem leavePending_isLum_of (a : Addr) (s : State) (b : Addr) : (leavePending a s).isLum b = s.isLum b := rfl
@[simp] theorem leavePending_settings_of (a : Addr) (s : State) : (leavePending a s).settings = s.settings := rfl
@[simp] theorem leavePending_lum_of (a : Addr) (s : State) (b : Addr) : (leavePending a s).lum b = s.lum b := rfl
@[simp] theorem leavePending_zone_of (a : Addr) (s : State) (y : ZoneId) : (leavePending a s).zone y = s.zone y := rfl
@[simp] theorem leavePending_channel_of (a : Addr) (s : State) (d : ChannelId) : (leavePending a s).channel d = s.channel d := rfl

/-! ## markLost -/

@[simp] theorem markLost_pending (s : State) : (markLost s).pending = s.pending := rfl
@[simp] theorem markLost_clock (s : State) : (markLost s).clock = s.clock := rfl
@[simp] theorem markLost_subMs (s : State) : (markLost s).subMs = s.subMs := rfl
@[simp] theorem markLost_portTime (s : State) : (markLost s).portTime = s.portTime := rfl
@[simp] theorem markLost_segment (s : State) : (markLost s).segment = s.segment := rfl
@[simp] theorem markLost_tables (s : State) : (markLost s).tables = s.tables := rfl
@[simp] theorem markLost_lums (s : State) : (markLost s).lums = s.lums := rfl
@[simp] theorem markLost_pendingList (s : State) : (markLost s).pendingList = s.pendingList := rfl
@[simp] theorem markLost_zones (s : State) : (markLost s).zones = s.zones := rfl
@[simp] theorem markLost_channels (s : State) : (markLost s).channels = s.channels := rfl
@[simp] theorem markLost_scan (s : State) : (markLost s).scan = s.scan := rfl
@[simp] theorem markLost_power (s : State) : (markLost s).power = s.power := rfl
@[simp] theorem markLost_rowTx (s : State) : (markLost s).rowTx = s.rowTx := rfl
@[simp] theorem markLost_rowActivity (s : State) : (markLost s).rowActivity = s.rowActivity := rfl
@[simp] theorem markLost_rowForeign (s : State) : (markLost s).rowForeign = s.rowForeign := rfl
@[simp] theorem markLost_starvation (s : State) : (markLost s).starvation = s.starvation := rfl
@[simp] theorem markLost_lowerTurn (s : State) : (markLost s).lowerTurn = s.lowerTurn := rfl
@[simp] theorem markLost_emission (s : State) : (markLost s).emission = s.emission := rfl
@[simp] theorem markLost_forward (s : State) : (markLost s).forward = s.forward := rfl
@[simp] theorem markLost_lastTag (s : State) : (markLost s).lastTag = s.lastTag := rfl
@[simp] theorem markLost_tagsInUse (s : State) : (markLost s).tagsInUse = s.tagsInUse := rfl
@[simp] theorem markLost_upstream (s : State) : (markLost s).upstream = s.upstream := rfl
@[simp] theorem markLost_noticesLost (s : State) : (markLost s).noticesLost = true := rfl
@[simp] theorem markLost_lostSinceStart (s : State) : (markLost s).lostSinceStart = true := rfl
@[simp] theorem markLost_trunkTx (s : State) : (markLost s).trunkTx = s.trunkTx := rfl
@[simp] theorem markLost_answer (s : State) : (markLost s).answer = s.answer := rfl
@[simp] theorem markLost_trunkIdle (s : State) : (markLost s).trunkIdle = s.trunkIdle := rfl
@[simp] theorem markLost_counters (s : State) : (markLost s).counters = s.counters := rfl
@[simp] theorem markLost_verify (s : State) : (markLost s).verify = s.verify := rfl
@[simp] theorem markLost_store (s : State) : (markLost s).store = s.store := rfl
@[simp] theorem markLost_snapshot (s : State) : (markLost s).snapshot = s.snapshot := rfl
@[simp] theorem markLost_restart (s : State) : (markLost s).restart = s.restart := rfl
@[simp] theorem markLost_row_of (s : State) (b : Addr) : (markLost s).row b = s.row b := rfl
@[simp] theorem markLost_zoneConfig_of (s : State) (y : ZoneId) : (markLost s).zoneConfig y = s.zoneConfig y := rfl
@[simp] theorem markLost_channelConfig_of (s : State) (d : ChannelId) : (markLost s).channelConfig d = s.channelConfig d := rfl
@[simp] theorem markLost_isLum_of (s : State) (b : Addr) : (markLost s).isLum b = s.isLum b := rfl
@[simp] theorem markLost_settings_of (s : State) : (markLost s).settings = s.settings := rfl
@[simp] theorem markLost_lum_of (s : State) (b : Addr) : (markLost s).lum b = s.lum b := rfl
@[simp] theorem markLost_zone_of (s : State) (y : ZoneId) : (markLost s).zone y = s.zone y := rfl
@[simp] theorem markLost_channel_of (s : State) (d : ChannelId) : (markLost s).channel d = s.channel d := rfl

/-! ## popForward -/

@[simp] theorem popForward_pending (s : State) : (popForward s).pending = s.pending := rfl
@[simp] theorem popForward_clock (s : State) : (popForward s).clock = s.clock := rfl
@[simp] theorem popForward_subMs (s : State) : (popForward s).subMs = s.subMs := rfl
@[simp] theorem popForward_portTime (s : State) : (popForward s).portTime = s.portTime := rfl
@[simp] theorem popForward_segment (s : State) : (popForward s).segment = s.segment := rfl
@[simp] theorem popForward_tables (s : State) : (popForward s).tables = s.tables := rfl
@[simp] theorem popForward_lums (s : State) : (popForward s).lums = s.lums := rfl
@[simp] theorem popForward_pendingList (s : State) : (popForward s).pendingList = s.pendingList := rfl
@[simp] theorem popForward_zones (s : State) : (popForward s).zones = s.zones := rfl
@[simp] theorem popForward_channels (s : State) : (popForward s).channels = s.channels := rfl
@[simp] theorem popForward_scan (s : State) : (popForward s).scan = s.scan := rfl
@[simp] theorem popForward_power (s : State) : (popForward s).power = s.power := rfl
@[simp] theorem popForward_rowTx (s : State) : (popForward s).rowTx = s.rowTx := rfl
@[simp] theorem popForward_rowActivity (s : State) : (popForward s).rowActivity = s.rowActivity := rfl
@[simp] theorem popForward_rowForeign (s : State) : (popForward s).rowForeign = s.rowForeign := rfl
@[simp] theorem popForward_starvation (s : State) : (popForward s).starvation = s.starvation := rfl
@[simp] theorem popForward_lowerTurn (s : State) : (popForward s).lowerTurn = s.lowerTurn := rfl
@[simp] theorem popForward_emission (s : State) : (popForward s).emission = s.emission := rfl
@[simp] theorem popForward_forward (s : State) : (popForward s).forward = s.forward.tail := rfl
@[simp] theorem popForward_lastTag (s : State) : (popForward s).lastTag = s.lastTag := rfl
@[simp] theorem popForward_tagsInUse (s : State) : (popForward s).tagsInUse = s.tagsInUse := rfl
@[simp] theorem popForward_upstream (s : State) : (popForward s).upstream = s.upstream := rfl
@[simp] theorem popForward_noticesLost (s : State) : (popForward s).noticesLost = s.noticesLost := rfl
@[simp] theorem popForward_lostSinceStart (s : State) : (popForward s).lostSinceStart = s.lostSinceStart := rfl
@[simp] theorem popForward_trunkTx (s : State) : (popForward s).trunkTx = s.trunkTx := rfl
@[simp] theorem popForward_answer (s : State) : (popForward s).answer = s.answer := rfl
@[simp] theorem popForward_trunkIdle (s : State) : (popForward s).trunkIdle = s.trunkIdle := rfl
@[simp] theorem popForward_counters (s : State) : (popForward s).counters = s.counters := rfl
@[simp] theorem popForward_verify (s : State) : (popForward s).verify = s.verify := rfl
@[simp] theorem popForward_store (s : State) : (popForward s).store = s.store := rfl
@[simp] theorem popForward_snapshot (s : State) : (popForward s).snapshot = s.snapshot := rfl
@[simp] theorem popForward_restart (s : State) : (popForward s).restart = s.restart := rfl
@[simp] theorem popForward_row_of (s : State) (b : Addr) : (popForward s).row b = s.row b := rfl
@[simp] theorem popForward_zoneConfig_of (s : State) (y : ZoneId) : (popForward s).zoneConfig y = s.zoneConfig y := rfl
@[simp] theorem popForward_channelConfig_of (s : State) (d : ChannelId) : (popForward s).channelConfig d = s.channelConfig d := rfl
@[simp] theorem popForward_isLum_of (s : State) (b : Addr) : (popForward s).isLum b = s.isLum b := rfl
@[simp] theorem popForward_settings_of (s : State) : (popForward s).settings = s.settings := rfl
@[simp] theorem popForward_lum_of (s : State) (b : Addr) : (popForward s).lum b = s.lum b := rfl
@[simp] theorem popForward_zone_of (s : State) (y : ZoneId) : (popForward s).zone y = s.zone y := rfl
@[simp] theorem popForward_channel_of (s : State) (d : ChannelId) : (popForward s).channel d = s.channel d := rfl

/-! ## clearPending -/

@[simp] theorem clearPending_pending (s : State) : (clearPending s).pending = s.pending := rfl
@[simp] theorem clearPending_clock (s : State) : (clearPending s).clock = s.clock := rfl
@[simp] theorem clearPending_subMs (s : State) : (clearPending s).subMs = s.subMs := rfl
@[simp] theorem clearPending_portTime (s : State) : (clearPending s).portTime = s.portTime := rfl
@[simp] theorem clearPending_segment (s : State) : (clearPending s).segment = s.segment := rfl
@[simp] theorem clearPending_tables (s : State) : (clearPending s).tables = s.tables := rfl
@[simp] theorem clearPending_lums (s : State) : (clearPending s).lums = s.lums := rfl
@[simp] theorem clearPending_pendingList (s : State) : (clearPending s).pendingList = s.pendingList := rfl
@[simp] theorem clearPending_zones (s : State) : (clearPending s).zones = s.zones := rfl
@[simp] theorem clearPending_channels (s : State) : (clearPending s).channels = s.channels := rfl
@[simp] theorem clearPending_scan (s : State) : (clearPending s).scan = { s.scan with pending := false, pendingUrgent := false } := rfl
@[simp] theorem clearPending_power (s : State) : (clearPending s).power = s.power := rfl
@[simp] theorem clearPending_rowTx (s : State) : (clearPending s).rowTx = s.rowTx := rfl
@[simp] theorem clearPending_rowActivity (s : State) : (clearPending s).rowActivity = s.rowActivity := rfl
@[simp] theorem clearPending_rowForeign (s : State) : (clearPending s).rowForeign = s.rowForeign := rfl
@[simp] theorem clearPending_starvation (s : State) : (clearPending s).starvation = s.starvation := rfl
@[simp] theorem clearPending_lowerTurn (s : State) : (clearPending s).lowerTurn = s.lowerTurn := rfl
@[simp] theorem clearPending_emission (s : State) : (clearPending s).emission = s.emission := rfl
@[simp] theorem clearPending_forward (s : State) : (clearPending s).forward = s.forward := rfl
@[simp] theorem clearPending_lastTag (s : State) : (clearPending s).lastTag = s.lastTag := rfl
@[simp] theorem clearPending_tagsInUse (s : State) : (clearPending s).tagsInUse = s.tagsInUse := rfl
@[simp] theorem clearPending_upstream (s : State) : (clearPending s).upstream = s.upstream := rfl
@[simp] theorem clearPending_noticesLost (s : State) : (clearPending s).noticesLost = s.noticesLost := rfl
@[simp] theorem clearPending_lostSinceStart (s : State) : (clearPending s).lostSinceStart = s.lostSinceStart := rfl
@[simp] theorem clearPending_trunkTx (s : State) : (clearPending s).trunkTx = s.trunkTx := rfl
@[simp] theorem clearPending_answer (s : State) : (clearPending s).answer = s.answer := rfl
@[simp] theorem clearPending_trunkIdle (s : State) : (clearPending s).trunkIdle = s.trunkIdle := rfl
@[simp] theorem clearPending_counters (s : State) : (clearPending s).counters = s.counters := rfl
@[simp] theorem clearPending_verify (s : State) : (clearPending s).verify = s.verify := rfl
@[simp] theorem clearPending_store (s : State) : (clearPending s).store = s.store := rfl
@[simp] theorem clearPending_snapshot (s : State) : (clearPending s).snapshot = s.snapshot := rfl
@[simp] theorem clearPending_restart (s : State) : (clearPending s).restart = s.restart := rfl
@[simp] theorem clearPending_row_of (s : State) (b : Addr) : (clearPending s).row b = s.row b := rfl
@[simp] theorem clearPending_zoneConfig_of (s : State) (y : ZoneId) : (clearPending s).zoneConfig y = s.zoneConfig y := rfl
@[simp] theorem clearPending_channelConfig_of (s : State) (d : ChannelId) : (clearPending s).channelConfig d = s.channelConfig d := rfl
@[simp] theorem clearPending_isLum_of (s : State) (b : Addr) : (clearPending s).isLum b = s.isLum b := rfl
@[simp] theorem clearPending_settings_of (s : State) : (clearPending s).settings = s.settings := rfl
@[simp] theorem clearPending_lum_of (s : State) (b : Addr) : (clearPending s).lum b = s.lum b := rfl
@[simp] theorem clearPending_zone_of (s : State) (y : ZoneId) : (clearPending s).zone y = s.zone y := rfl
@[simp] theorem clearPending_channel_of (s : State) (d : ChannelId) : (clearPending s).channel d = s.channel d := rfl

/-! ## setPending -/

@[simp] theorem setPending_pending (u : Bool) (s : State) : (setPending u s).pending = s.pending := rfl
@[simp] theorem setPending_clock (u : Bool) (s : State) : (setPending u s).clock = s.clock := rfl
@[simp] theorem setPending_subMs (u : Bool) (s : State) : (setPending u s).subMs = s.subMs := rfl
@[simp] theorem setPending_portTime (u : Bool) (s : State) : (setPending u s).portTime = s.portTime := rfl
@[simp] theorem setPending_segment (u : Bool) (s : State) : (setPending u s).segment = s.segment := rfl
@[simp] theorem setPending_tables (u : Bool) (s : State) : (setPending u s).tables = s.tables := rfl
@[simp] theorem setPending_lums (u : Bool) (s : State) : (setPending u s).lums = s.lums := rfl
@[simp] theorem setPending_pendingList (u : Bool) (s : State) : (setPending u s).pendingList = s.pendingList := rfl
@[simp] theorem setPending_zones (u : Bool) (s : State) : (setPending u s).zones = s.zones := rfl
@[simp] theorem setPending_channels (u : Bool) (s : State) : (setPending u s).channels = s.channels := rfl
@[simp] theorem setPending_scan (u : Bool) (s : State) : (setPending u s).scan = { s.scan with pending := true, pendingUrgent := s.scan.pendingUrgent || u } := rfl
@[simp] theorem setPending_power (u : Bool) (s : State) : (setPending u s).power = s.power := rfl
@[simp] theorem setPending_rowTx (u : Bool) (s : State) : (setPending u s).rowTx = s.rowTx := rfl
@[simp] theorem setPending_rowActivity (u : Bool) (s : State) : (setPending u s).rowActivity = s.rowActivity := rfl
@[simp] theorem setPending_rowForeign (u : Bool) (s : State) : (setPending u s).rowForeign = s.rowForeign := rfl
@[simp] theorem setPending_starvation (u : Bool) (s : State) : (setPending u s).starvation = s.starvation := rfl
@[simp] theorem setPending_lowerTurn (u : Bool) (s : State) : (setPending u s).lowerTurn = s.lowerTurn := rfl
@[simp] theorem setPending_emission (u : Bool) (s : State) : (setPending u s).emission = s.emission := rfl
@[simp] theorem setPending_forward (u : Bool) (s : State) : (setPending u s).forward = s.forward := rfl
@[simp] theorem setPending_lastTag (u : Bool) (s : State) : (setPending u s).lastTag = s.lastTag := rfl
@[simp] theorem setPending_tagsInUse (u : Bool) (s : State) : (setPending u s).tagsInUse = s.tagsInUse := rfl
@[simp] theorem setPending_upstream (u : Bool) (s : State) : (setPending u s).upstream = s.upstream := rfl
@[simp] theorem setPending_noticesLost (u : Bool) (s : State) : (setPending u s).noticesLost = s.noticesLost := rfl
@[simp] theorem setPending_lostSinceStart (u : Bool) (s : State) : (setPending u s).lostSinceStart = s.lostSinceStart := rfl
@[simp] theorem setPending_trunkTx (u : Bool) (s : State) : (setPending u s).trunkTx = s.trunkTx := rfl
@[simp] theorem setPending_answer (u : Bool) (s : State) : (setPending u s).answer = s.answer := rfl
@[simp] theorem setPending_trunkIdle (u : Bool) (s : State) : (setPending u s).trunkIdle = s.trunkIdle := rfl
@[simp] theorem setPending_counters (u : Bool) (s : State) : (setPending u s).counters = s.counters := rfl
@[simp] theorem setPending_verify (u : Bool) (s : State) : (setPending u s).verify = s.verify := rfl
@[simp] theorem setPending_store (u : Bool) (s : State) : (setPending u s).store = s.store := rfl
@[simp] theorem setPending_snapshot (u : Bool) (s : State) : (setPending u s).snapshot = s.snapshot := rfl
@[simp] theorem setPending_restart (u : Bool) (s : State) : (setPending u s).restart = s.restart := rfl
@[simp] theorem setPending_row_of (u : Bool) (s : State) (b : Addr) : (setPending u s).row b = s.row b := rfl
@[simp] theorem setPending_zoneConfig_of (u : Bool) (s : State) (y : ZoneId) : (setPending u s).zoneConfig y = s.zoneConfig y := rfl
@[simp] theorem setPending_channelConfig_of (u : Bool) (s : State) (d : ChannelId) : (setPending u s).channelConfig d = s.channelConfig d := rfl
@[simp] theorem setPending_isLum_of (u : Bool) (s : State) (b : Addr) : (setPending u s).isLum b = s.isLum b := rfl
@[simp] theorem setPending_settings_of (u : Bool) (s : State) : (setPending u s).settings = s.settings := rfl
@[simp] theorem setPending_lum_of (u : Bool) (s : State) (b : Addr) : (setPending u s).lum b = s.lum b := rfl
@[simp] theorem setPending_zone_of (u : Bool) (s : State) (y : ZoneId) : (setPending u s).zone y = s.zone y := rfl
@[simp] theorem setPending_channel_of (u : Bool) (s : State) (d : ChannelId) : (setPending u s).channel d = s.channel d := rfl

/-! ## endScan -/

@[simp] theorem endScan_pending (st : ScanState) (s : State) : (endScan st s).pending = s.pending := rfl
@[simp] theorem endScan_clock (st : ScanState) (s : State) : (endScan st s).clock = s.clock := rfl
@[simp] theorem endScan_subMs (st : ScanState) (s : State) : (endScan st s).subMs = s.subMs := rfl
@[simp] theorem endScan_portTime (st : ScanState) (s : State) : (endScan st s).portTime = s.portTime := rfl
@[simp] theorem endScan_segment (st : ScanState) (s : State) : (endScan st s).segment = s.segment := rfl
@[simp] theorem endScan_tables (st : ScanState) (s : State) : (endScan st s).tables = s.tables := rfl
@[simp] theorem endScan_lums (st : ScanState) (s : State) : (endScan st s).lums = s.lums := rfl
@[simp] theorem endScan_pendingList (st : ScanState) (s : State) : (endScan st s).pendingList = s.pendingList := rfl
@[simp] theorem endScan_zones (st : ScanState) (s : State) : (endScan st s).zones = s.zones := rfl
@[simp] theorem endScan_channels (st : ScanState) (s : State) : (endScan st s).channels = s.channels := rfl
@[simp] theorem endScan_scan (st : ScanState) (s : State) : (endScan st s).scan = { s.scan with state := st, next := none, onRow := false, disregard := false, urgent := false } := rfl
@[simp] theorem endScan_power (st : ScanState) (s : State) : (endScan st s).power = s.power := rfl
@[simp] theorem endScan_rowTx (st : ScanState) (s : State) : (endScan st s).rowTx = s.rowTx := rfl
@[simp] theorem endScan_rowActivity (st : ScanState) (s : State) : (endScan st s).rowActivity = s.rowActivity := rfl
@[simp] theorem endScan_rowForeign (st : ScanState) (s : State) : (endScan st s).rowForeign = s.rowForeign := rfl
@[simp] theorem endScan_starvation (st : ScanState) (s : State) : (endScan st s).starvation = s.starvation := rfl
@[simp] theorem endScan_lowerTurn (st : ScanState) (s : State) : (endScan st s).lowerTurn = s.lowerTurn := rfl
@[simp] theorem endScan_emission (st : ScanState) (s : State) : (endScan st s).emission = s.emission := rfl
@[simp] theorem endScan_forward (st : ScanState) (s : State) : (endScan st s).forward = s.forward := rfl
@[simp] theorem endScan_lastTag (st : ScanState) (s : State) : (endScan st s).lastTag = s.lastTag := rfl
@[simp] theorem endScan_tagsInUse (st : ScanState) (s : State) : (endScan st s).tagsInUse = s.tagsInUse := rfl
@[simp] theorem endScan_upstream (st : ScanState) (s : State) : (endScan st s).upstream = s.upstream := rfl
@[simp] theorem endScan_noticesLost (st : ScanState) (s : State) : (endScan st s).noticesLost = s.noticesLost := rfl
@[simp] theorem endScan_lostSinceStart (st : ScanState) (s : State) : (endScan st s).lostSinceStart = s.lostSinceStart := rfl
@[simp] theorem endScan_trunkTx (st : ScanState) (s : State) : (endScan st s).trunkTx = s.trunkTx := rfl
@[simp] theorem endScan_answer (st : ScanState) (s : State) : (endScan st s).answer = s.answer := rfl
@[simp] theorem endScan_trunkIdle (st : ScanState) (s : State) : (endScan st s).trunkIdle = s.trunkIdle := rfl
@[simp] theorem endScan_counters (st : ScanState) (s : State) : (endScan st s).counters = s.counters := rfl
@[simp] theorem endScan_verify (st : ScanState) (s : State) : (endScan st s).verify = s.verify := rfl
@[simp] theorem endScan_store (st : ScanState) (s : State) : (endScan st s).store = s.store := rfl
@[simp] theorem endScan_snapshot (st : ScanState) (s : State) : (endScan st s).snapshot = s.snapshot := rfl
@[simp] theorem endScan_restart (st : ScanState) (s : State) : (endScan st s).restart = s.restart := rfl
@[simp] theorem endScan_row_of (st : ScanState) (s : State) (b : Addr) : (endScan st s).row b = s.row b := rfl
@[simp] theorem endScan_zoneConfig_of (st : ScanState) (s : State) (y : ZoneId) : (endScan st s).zoneConfig y = s.zoneConfig y := rfl
@[simp] theorem endScan_channelConfig_of (st : ScanState) (s : State) (d : ChannelId) : (endScan st s).channelConfig d = s.channelConfig d := rfl
@[simp] theorem endScan_isLum_of (st : ScanState) (s : State) (b : Addr) : (endScan st s).isLum b = s.isLum b := rfl
@[simp] theorem endScan_settings_of (st : ScanState) (s : State) : (endScan st s).settings = s.settings := rfl
@[simp] theorem endScan_lum_of (st : ScanState) (s : State) (b : Addr) : (endScan st s).lum b = s.lum b := rfl
@[simp] theorem endScan_zone_of (st : ScanState) (s : State) (y : ZoneId) : (endScan st s).zone y = s.zone y := rfl
@[simp] theorem endScan_channel_of (st : ScanState) (s : State) (d : ChannelId) : (endScan st s).channel d = s.channel d := rfl

/-! ## findNext -/

@[simp] theorem findNext_pending (s : State) : (findNext s).pending = s.pending := rfl
@[simp] theorem findNext_clock (s : State) : (findNext s).clock = s.clock := rfl
@[simp] theorem findNext_subMs (s : State) : (findNext s).subMs = s.subMs := rfl
@[simp] theorem findNext_portTime (s : State) : (findNext s).portTime = s.portTime := rfl
@[simp] theorem findNext_segment (s : State) : (findNext s).segment = s.segment := rfl
@[simp] theorem findNext_tables (s : State) : (findNext s).tables = s.tables := rfl
@[simp] theorem findNext_lums (s : State) : (findNext s).lums = s.lums := rfl
@[simp] theorem findNext_pendingList (s : State) : (findNext s).pendingList = s.pendingList := rfl
@[simp] theorem findNext_zones (s : State) : (findNext s).zones = s.zones := rfl
@[simp] theorem findNext_channels (s : State) : (findNext s).channels = s.channels := rfl
@[simp] theorem findNext_scan (s : State) : (findNext s).scan = { s.scan with next := nextChannel s (searchStart s.scan) } := rfl
@[simp] theorem findNext_power (s : State) : (findNext s).power = s.power := rfl
@[simp] theorem findNext_rowTx (s : State) : (findNext s).rowTx = s.rowTx := rfl
@[simp] theorem findNext_rowActivity (s : State) : (findNext s).rowActivity = s.rowActivity := rfl
@[simp] theorem findNext_rowForeign (s : State) : (findNext s).rowForeign = s.rowForeign := rfl
@[simp] theorem findNext_starvation (s : State) : (findNext s).starvation = s.starvation := rfl
@[simp] theorem findNext_lowerTurn (s : State) : (findNext s).lowerTurn = s.lowerTurn := rfl
@[simp] theorem findNext_emission (s : State) : (findNext s).emission = s.emission := rfl
@[simp] theorem findNext_forward (s : State) : (findNext s).forward = s.forward := rfl
@[simp] theorem findNext_lastTag (s : State) : (findNext s).lastTag = s.lastTag := rfl
@[simp] theorem findNext_tagsInUse (s : State) : (findNext s).tagsInUse = s.tagsInUse := rfl
@[simp] theorem findNext_upstream (s : State) : (findNext s).upstream = s.upstream := rfl
@[simp] theorem findNext_noticesLost (s : State) : (findNext s).noticesLost = s.noticesLost := rfl
@[simp] theorem findNext_lostSinceStart (s : State) : (findNext s).lostSinceStart = s.lostSinceStart := rfl
@[simp] theorem findNext_trunkTx (s : State) : (findNext s).trunkTx = s.trunkTx := rfl
@[simp] theorem findNext_answer (s : State) : (findNext s).answer = s.answer := rfl
@[simp] theorem findNext_trunkIdle (s : State) : (findNext s).trunkIdle = s.trunkIdle := rfl
@[simp] theorem findNext_counters (s : State) : (findNext s).counters = s.counters := rfl
@[simp] theorem findNext_verify (s : State) : (findNext s).verify = s.verify := rfl
@[simp] theorem findNext_store (s : State) : (findNext s).store = s.store := rfl
@[simp] theorem findNext_snapshot (s : State) : (findNext s).snapshot = s.snapshot := rfl
@[simp] theorem findNext_restart (s : State) : (findNext s).restart = s.restart := rfl
@[simp] theorem findNext_row_of (s : State) (b : Addr) : (findNext s).row b = s.row b := rfl
@[simp] theorem findNext_zoneConfig_of (s : State) (y : ZoneId) : (findNext s).zoneConfig y = s.zoneConfig y := rfl
@[simp] theorem findNext_channelConfig_of (s : State) (d : ChannelId) : (findNext s).channelConfig d = s.channelConfig d := rfl
@[simp] theorem findNext_isLum_of (s : State) (b : Addr) : (findNext s).isLum b = s.isLum b := rfl
@[simp] theorem findNext_settings_of (s : State) : (findNext s).settings = s.settings := rfl
@[simp] theorem findNext_lum_of (s : State) (b : Addr) : (findNext s).lum b = s.lum b := rfl
@[simp] theorem findNext_zone_of (s : State) (y : ZoneId) : (findNext s).zone y = s.zone y := rfl
@[simp] theorem findNext_channel_of (s : State) (d : ChannelId) : (findNext s).channel d = s.channel d := rfl

end Sys2Proof.Machine
end

