-- ==== Sys2Proof/Laws/RowMap.lean ====
section
/-! SUPPORT. Everything the row map's shared operations can do: which fields they touch, and what they leave of an entry. -/

namespace Sys2Proof.Machine

/-- Only the entries and the pending list differ. -/
def RowMapFrame (s t : State) : Prop := t = { s with lums := t.lums, pendingList := t.pendingList }

theorem RowMapFrame.refl (s : State) : RowMapFrame s s := rfl

theorem RowMapFrame.trans {s t u : State} (h : RowMapFrame s t) (k : RowMapFrame t u) : RowMapFrame s u := by
  unfold RowMapFrame at h k ⊢
  rw [k, h]

theorem RowMapFrame.foldl {α : Type} {f : State → α → State} (h : ∀ s a, RowMapFrame s (f s a))
    (as : List α) (s : State) : RowMapFrame s (as.foldl f s) := by
  induction as generalizing s with
  | nil => exact .refl s
  | cons a as ih => exact (h s a).trans (ih (f s a))

theorem setLum_frame (s : State) (a : Addr) (l : Lum) : RowMapFrame s (s.setLum a l) := rfl

theorem joinPending_frame (s : State) (a : Addr) : RowMapFrame s (joinPending a s) := rfl

theorem leavePending_frame (s : State) (a : Addr) : RowMapFrame s (leavePending a s) := rfl

/-- What the row map frame keeps: every accessor that reads another field. -/
theorem RowMapFrame.keeps {s t : State} (h : RowMapFrame s t) :
    t.tables = s.tables ∧ t.zones = s.zones ∧ t.channels = s.channels ∧ t.clock = s.clock ∧
    t.power = s.power ∧ t.scan = s.scan := by
  unfold RowMapFrame at h
  rw [h]
  exact ⟨rfl, rfl, rfl, rfl, rfl, rfl⟩

theorem RowMapFrame.isLum {s t : State} (h : RowMapFrame s t) (a : Addr) : t.isLum a = s.isLum a := by
  unfold State.isLum State.row
  rw [h.keeps.1]

theorem RowMapFrame.row {s t : State} (h : RowMapFrame s t) (a : Addr) : t.row a = s.row a := by
  unfold State.row
  rw [h.keeps.1]

theorem RowMapFrame.zone {s t : State} (h : RowMapFrame s t) (z : ZoneId) : t.zone z = s.zone z := by
  unfold State.zone
  rw [h.keeps.2.1]

/-- The output rule reads nothing of the entries' dynamic fields and the pending list. -/
theorem RowMapFrame.outputFor {s t : State} (h : RowMapFrame s t) (a : Addr) (b : Nat) :
    t.outputFor a b = s.outputFor a b := by
  unfold RowMapFrame at h
  rw [h]
  rfl

theorem applyUpdate_frame (a : Addr) (o : Nat) (urgent : Bool) (fade : Fade) (s : State) :
    RowMapFrame s (applyUpdate a o urgent fade s) := by
  unfold applyUpdate
  dsimp only
  split
  · split <;> exact rfl
  · split <;> exact rfl
  · exact rfl
  · exact rfl

theorem outputUpdate_frame (a : Addr) (o : Nat) (urgent : Bool) (fade : Fade) (s : State) :
    RowMapFrame s (outputUpdate a o urgent fade s) := by
  unfold outputUpdate
  split
  · exact .refl s
  · exact applyUpdate_frame a o urgent fade s

/-- What an update leaves of an entry: all but output, shadow, urgency and emission fade. -/
def Lum.SameBut (l m : Lum) : Prop :=
  m = { l with output := m.output, shadow := m.shadow, urgent := m.urgent, emissionFade := m.emissionFade }

theorem Lum.SameBut.refl (l : Lum) : l.SameBut l := rfl

theorem Lum.SameBut.trans {l m n : Lum} (h : l.SameBut m) (k : m.SameBut n) : l.SameBut n := by
  unfold Lum.SameBut at h k ⊢
  rw [k, h]

theorem Lum.settle_sameBut (l : Lum) (o : Nat) (urgent : Bool) (fade : Fade) :
    l.SameBut (({ l with output := o } : Lum).settle urgent fade) := by
  unfold Lum.settle
  split
  · exact rfl
  · split <;> exact rfl

/-- An output update stores the new output, keeps the rest of the entry but shadow, urgency and fade, and touches no other entry (R27). -/
theorem outputUpdate_lum (a b : Addr) (o : Nat) (urgent : Bool) (fade : Fade) (s : State) :
    (b ≠ a → (outputUpdate a o urgent fade s).lum b = s.lum b) ∧
    ((outputUpdate a o urgent fade s).lum a).output = o ∧
    (s.lum a).SameBut ((outputUpdate a o urgent fade s).lum a) := by
  unfold outputUpdate
  split
  · next h => exact ⟨fun _ => rfl, h.2.symm, .refl _⟩
  · unfold applyUpdate
    dsimp only
    have settled : ∀ l : Lum, (l.settle urgent fade).output = l.output := by
      intro l
      unfold Lum.settle
      split
      · rfl
      · split <;> rfl
    split
    · split
      · exact ⟨fun h => lum_setLum_of_ne _ _ h, by simp, by simp [Lum.SameBut]⟩
      · exact ⟨fun h => lum_setLum_of_ne _ _ h, by simp, by simp [Lum.SameBut]⟩
    · split
      · exact ⟨fun h => lum_setLum_of_ne _ _ h, by simp, by simp [Lum.SameBut]⟩
      · refine ⟨fun h => lum_setLum_of_ne _ _ h, by simp [settled], ?_⟩
        rw [lum_setLum_self]
        exact Lum.settle_sameBut _ _ _ _
    · refine ⟨fun h => lum_setLum_of_ne _ _ h, by simp [settled], ?_⟩
      rw [lum_setLum_self]
      exact Lum.settle_sameBut _ _ _ _
    · exact ⟨fun h => lum_setLum_of_ne _ _ h, by simp, by simp [Lum.SameBut]⟩

theorem recompute_frame (s : State) (a : Addr) : RowMapFrame s (recompute s a) :=
  outputUpdate_frame _ _ _ _ _

theorem recomputeZone_frame (z : ZoneId) (s : State) : RowMapFrame s (recomputeZone z s) :=
  RowMapFrame.foldl recompute_frame _ s

theorem startCovered_frame (level : Nat) (s : State) (a : Addr) : RowMapFrame s (startCovered level s a) := rfl

theorem completeCovered_frame (level : Nat) (s : State) (a : Addr) :
    RowMapFrame s (completeCovered level s a) := by
  unfold completeCovered
  dsimp only
  split
  · split <;> exact rfl
  · exact .refl s

theorem reportMismatch_frame (a : Addr) (s : State) : RowMapFrame s (reportMismatch a s) := rfl

theorem leaveLuminaire_frame (a : Addr) (s : State) : RowMapFrame s (leaveLuminaire a s) := rfl

theorem clearAligned_frame (f : Frame) (s : State) : RowMapFrame s (clearAligned f s) := by
  simp only [RowMapFrame, clearAligned]

theorem rowMapLost_frame (s : State) : RowMapFrame s (rowMapLost s) := by
  simp only [RowMapFrame, rowMapLost, State.mapLuminaires]

theorem rowMapReturned_frame (s : State) : RowMapFrame s (rowMapReturned s) := by
  simp only [RowMapFrame, rowMapReturned, State.mapLuminaires]

theorem absorb_frame (level : Nat) (fade : Fade) (s : State) (a : Addr) :
    RowMapFrame s (absorb level fade s a) :=
  (setLum_frame s a _).trans (outputUpdate_frame _ _ _ _ _)

theorem absorbAll_frame (level : Nat) (fade : Fade) (as : List Addr) (s : State) :
    RowMapFrame s (absorbAll level fade as s) :=
  RowMapFrame.foldl (absorb_frame level fade) as s

/-- A covered entry at the start of a level frame (R31). -/
theorem startCovered_lum (level : Nat) (s : State) (a b : Addr) :
    (startCovered level s a).lum b =
      if b = a then { s.lum a with shadow := .inFlight, sent := level, sentValid := true, urgent := false }
      else s.lum b := by
  show ((s.setLum a _).lum b) = _
  rw [lum_setLum]

/-- A covered entry at the completion of a level frame (R32). -/
theorem completeCovered_lum (level : Nat) (s : State) (a b : Addr) :
    (completeCovered level s a).lum b =
      if b = a ∧ s.isLum a = true ∧ (s.lum a).shadow = .inFlight then
        (if (s.lum a).output = level then
          { s.lum a with shadow := .synced, sent := level, sentValid := true, urgent := false }
        else { s.lum a with shadow := .pending, sent := level, sentValid := true })
      else s.lum b := by
  unfold completeCovered
  dsimp only
  by_cases h : s.isLum a = true ∧ (s.lum a).shadow = .inFlight
  · rw [if_pos h]
    by_cases e : (s.lum a).output = level
    · rw [if_pos e, lum_setLum]
      by_cases q : b = a
      · simp [q, h, e]
      · simp [q]
    · rw [if_neg e]
      show ((s.setLum a _).lum b) = _
      rw [lum_setLum]
      by_cases q : b = a
      · simp [q, h, e]
      · simp [q]
  · rw [if_neg h, if_neg (fun q => h q.2)]

/-- Row power is lost: every luminaire is UNKNOWN with S invalid (R34). -/
theorem rowMapLost_lum (s : State) (a : Addr) :
    (rowMapLost s).lum a = if s.isLum a then (s.lum a).lose else s.lum a := by
  simp [rowMapLost, State.mapLuminaires, State.lum]

/-- Row power returns: every luminaire is PENDING (R34). -/
theorem rowMapReturned_lum (s : State) (a : Addr) :
    (rowMapReturned s).lum a = if s.isLum a then (s.lum a).return else s.lum a := by
  simp [rowMapReturned, State.mapLuminaires, State.lum]

theorem clearAligned_lum (f : Frame) (s : State) (a : Addr) :
    (clearAligned f s).lum a =
      if s.isLum a = true ∧ (64 ≤ f.unit.toNat ∨ f.unit.toNat = a.val)
      then { s.lum a with aligned := false } else s.lum a := by
  simp [clearAligned, State.lum]

end Sys2Proof.Machine
end

