-- ==== Sys2Proof/Laws/Events.lean ====
section
/-! SUPPORT. Everything that offering, raising and scanning can do: which fields each shared operation touches. -/

namespace Sys2Proof.Machine

/-! ## The upstream queue -/

/-- Only the upstream queue and its marks of lost notices differ. -/
def UpstreamFrame (s t : State) : Prop :=
  t = { s with upstream := t.upstream, noticesLost := t.noticesLost, lostSinceStart := t.lostSinceStart }

theorem UpstreamFrame.refl (s : State) : UpstreamFrame s s := rfl

theorem UpstreamFrame.trans {s t u : State} (h : UpstreamFrame s t) (k : UpstreamFrame t u) :
    UpstreamFrame s u := by
  unfold UpstreamFrame at h k ⊢
  rw [k, h]

theorem makePlace_frame (s : State) : UpstreamFrame s (makePlace s) := by
  unfold makePlace
  split
  · exact rfl
  · split <;> exact rfl

theorem offerDeferred_frame (d : DeferredReply) (s : State) : UpstreamFrame s (offerDeferred d s) := by
  unfold offerDeferred
  have place : ∀ t : State, UpstreamFrame t
      (if Config.upstreamCapacity ≤ t.upstream.length then t
       else { t with upstream := place ⟨.deferred d, false, false⟩ t.upstream }) := by
    intro t
    split <;> exact rfl
  split
  · exact (makePlace_frame s).trans (place _)
  · exact place s

theorem offerNotice_frame (n : Notice) (s : State) : UpstreamFrame s (offerNotice n s) := by
  unfold offerNotice
  split
  · exact rfl
  · split
    · exact rfl
    · split
      · split <;> exact rfl
      · exact rfl

theorem noticeOf_frame (e : Event) (s : State) : UpstreamFrame s (noticeOf e s) := by
  unfold noticeOf
  dsimp only
  split
  · exact offerNotice_frame _ s
  · exact .refl s

/-! ## Scans and passes -/

/-- What raising an event, a scan's start or completion, and a compute pass can touch: the scan controller, the lower-turn flag, zone status, entries, pending list and upstream queue. -/
def EventFrame (s t : State) : Prop :=
  t = { s with
    scan := t.scan, lowerTurn := t.lowerTurn, zones := t.zones, lums := t.lums
    pendingList := t.pendingList, upstream := t.upstream
    noticesLost := t.noticesLost, lostSinceStart := t.lostSinceStart }

theorem EventFrame.refl (s : State) : EventFrame s s := rfl

theorem EventFrame.trans {s t u : State} (h : EventFrame s t) (k : EventFrame t u) : EventFrame s u := by
  unfold EventFrame at h k ⊢
  rw [k, h]

theorem EventFrame.foldl {α : Type} {f : State → α → State} (h : ∀ s a, EventFrame s (f s a))
    (as : List α) (s : State) : EventFrame s (as.foldl f s) := by
  induction as generalizing s with
  | nil => exact .refl s
  | cons a as ih => exact (h s a).trans (ih (f s a))

theorem UpstreamFrame.event {s t : State} (h : UpstreamFrame s t) : EventFrame s t := by
  unfold UpstreamFrame at h
  unfold EventFrame
  rw [h]

theorem RowMapFrame.event {s t : State} (h : RowMapFrame s t) : EventFrame s t := by
  unfold RowMapFrame at h
  unfold EventFrame
  rw [h]

theorem rescanInScan_frame (s : State) : EventFrame s (rescanInScan s) := by
  unfold rescanInScan
  split <;> exact rfl

theorem raiseInScan_frame (s : State) (e : Event) : EventFrame s (raiseInScan s e) := by
  unfold raiseInScan
  split
  · exact (noticeOf_frame e s).event.trans (rescanInScan_frame _)
  · exact (noticeOf_frame e s).event

theorem computePass_frame (s : State) : EventFrame s (computePass s) := by
  unfold computePass
  have settled : EventFrame s { s with zones := Vector.ofFn (passZone s) } := by
    simp only [EventFrame]
  exact settled.trans ((RowMapFrame.foldl recompute_frame _ _).event.trans
    (EventFrame.foldl raiseInScan_frame _ _))

theorem rescanInScan_zones (s : State) : (rescanInScan s).zones = s.zones := by
  unfold rescanInScan
  split <;> rfl

theorem noticeOf_zones (e : Event) (s : State) : (noticeOf e s).zones = s.zones := by
  have h := noticeOf_frame e s
  unfold UpstreamFrame at h
  rw [h]

theorem raiseInScan_zones (s : State) (e : Event) : (raiseInScan s e).zones = s.zones := by
  unfold raiseInScan
  split
  · exact (rescanInScan_zones _).trans (noticeOf_zones e s)
  · exact noticeOf_zones e s

/-- What a compute pass leaves in each zone is what `passZone` says: updates and events touch no zone. -/
theorem computePass_zone (s : State) (z : ZoneId) : (computePass s).zone z = passZone s z := by
  have raised : ∀ (es : List Event) (t : State), (es.foldl raiseInScan t).zones = t.zones := by
    intro es
    induction es with
    | nil => exact fun _ => rfl
    | cons e es ih => exact fun t => (ih _).trans (raiseInScan_zones t e)
  have updated : ∀ (as : List Addr) (t : State), (as.foldl recompute t).zones = t.zones := by
    intro as t
    have h := RowMapFrame.foldl recompute_frame as t
    unfold RowMapFrame at h
    rw [h]
  unfold computePass State.zone
  dsimp only
  rw [raised, updated]
  simp

theorem endScan_frame (st : ScanState) (s : State) : EventFrame s (endScan st s) := rfl

theorem clearPending_frame (s : State) : EventFrame s (clearPending s) := rfl

theorem setPending_frame (urgent : Bool) (s : State) : EventFrame s (setPending urgent s) := rfl

theorem findNext_frame (s : State) : EventFrame s (findNext s) := rfl

theorem openScan_frame (urgent : Bool) (s : State) : EventFrame s (openScan urgent s) := rfl

theorem completeScan_frame (s : State) : EventFrame s (completeScan s) :=
  (computePass_frame s).trans ((endScan_frame .idle _).trans rfl)

theorem nextScan_frame {start : Bool → State → State} (h : ∀ u s, EventFrame s (start u s)) (s : State) :
    EventFrame s (nextScan start s) := by
  unfold nextScan
  split
  · exact (clearPending_frame s).trans (h _ _)
  · split
    · exact h _ _
    · exact .refl s

theorem startScanFuel_frame (fuel : Nat) (urgent : Bool) (s : State) :
    EventFrame s (startScanFuel fuel urgent s) := by
  induction fuel generalizing urgent s with
  | zero => exact .refl s
  | succ n ih =>
    unfold startScanFuel
    dsimp only
    split
    · exact openScan_frame urgent s
    · exact (openScan_frame urgent s).trans ((completeScan_frame _).trans (nextScan_frame ih _))

theorem startScan_frame (urgent : Bool) (s : State) : EventFrame s (startScan urgent s) :=
  startScanFuel_frame _ _ _

theorem finishScan_frame (s : State) : EventFrame s (finishScan s) :=
  (completeScan_frame s).trans (nextScan_frame startScan_frame _)

theorem trigger_frame (urgent : Bool) (s : State) : EventFrame s (trigger urgent s) := by
  unfold trigger
  split
  · exact .refl s
  · split
    · exact startScan_frame urgent s
    · exact setPending_frame urgent s
    · exact .refl s
    · exact .refl s

/-- Raising an event touches only what an event can touch (R171). -/
theorem raise_frame (e : Event) (s : State) : EventFrame s (raise e s) := by
  unfold raise
  split
  · exact (noticeOf_frame e s).event.trans (trigger_frame true _)
  · exact (noticeOf_frame e s).event

theorem tickIfDue_frame (s : State) : EventFrame s (tickIfDue s) := by
  unfold tickIfDue takeTick
  split
  · exact EventFrame.trans (t := { s with scan := { s.scan with tickTaken := true } }) rfl (trigger_frame _ _)
  · exact .refl s

theorem reviseScan_frame (s : State) : EventFrame s (reviseScan s) := by
  unfold reviseScan
  dsimp only
  split
  · split
    · exact findNext_frame s
    · exact (findNext_frame s).trans (finishScan_frame _)
  · exact .refl s

theorem suspendScan_frame (s : State) : EventFrame s (suspendScan s) := rfl

theorem resumeScan_frame (s : State) : EventFrame s (resumeScan s) :=
  (endScan_frame .idle s).trans (trigger_frame _ _)

theorem leaveStopping_frame (s : State) : EventFrame s (leaveStopping s) := by
  unfold leaveStopping
  dsimp only
  split
  · exact EventFrame.trans (t := clearPending (endScan .idle s)) rfl (startScan_frame _ _)
  · exact rfl

theorem advanceScan_frame (s : State) : EventFrame s (advanceScan s) := by
  unfold advanceScan
  dsimp only
  split
  · exact rfl
  · exact EventFrame.trans (t := findNext { s with scan := { s.scan with onRow := false, disregard := false } })
      rfl (finishScan_frame _)

/-- An event frame keeps the tables, the clock, row power and the row transmitter. -/
theorem EventFrame.keeps {s t : State} (h : EventFrame s t) :
    t.tables = s.tables ∧ t.clock = s.clock ∧ t.power = s.power ∧ t.rowTx = s.rowTx ∧
    t.pending = s.pending ∧ t.channels = s.channels ∧ t.counters = s.counters ∧ t.verify = s.verify ∧
    t.forward = s.forward ∧ t.tagsInUse = s.tagsInUse := by
  unfold EventFrame at h
  rw [h]
  exact ⟨rfl, rfl, rfl, rfl, rfl, rfl, rfl, rfl, rfl, rfl⟩

/-! ## Zone changes -/

theorem changeMode_frame (change : ZoneStatus → ZoneStatus) (s : State) (z : ZoneId) :
    EventFrame s (changeMode change s z) := by
  unfold changeMode
  split
  · exact .refl s
  · exact EventFrame.trans (t := s.setZone z (change (s.zone z))) rfl (recomputeZone_frame z _).event

theorem bindZone_frame (z : ZoneId) (s : State) : EventFrame s (bindZone z s) :=
  EventFrame.trans (t := s.setZone z ⟨.track, 1000, 0, s.stamp, none, false, false⟩) rfl
    (recomputeZone_frame z _).event

theorem unbindZone_frame (z : ZoneId) (s : State) : EventFrame s (unbindZone z s) :=
  EventFrame.trans (t := s.setZone z { s.zone z with mode := .unbound }) rfl (recomputeZone_frame z _).event

end Sys2Proof.Machine
end

