-- ==== Sys2Proof/Laws/Arbiter.lean ====
section
/-! SUPPORT. Everything the arbiter, the relay and the management unit's shared operations can do. -/

namespace Sys2Proof.Machine

/-! ## The arbiter -/

/-- What a choice of the arbiter can touch. -/
def TakeFrame (s t : State) : Prop :=
  t = { s with
    rowTx := t.rowTx, lums := t.lums, pendingList := t.pendingList, emission := t.emission
    forward := t.forward, scan := t.scan, starvation := t.starvation, lowerTurn := t.lowerTurn
    verify := t.verify }

theorem TakeFrame.refl (s : State) : TakeFrame s s := rfl

theorem TakeFrame.trans {s t u : State} (h : TakeFrame s t) (k : TakeFrame t u) : TakeFrame s u := by
  unfold TakeFrame at h k ⊢
  rw [k, h]

theorem RowMapFrame.take {s t : State} (h : RowMapFrame s t) : TakeFrame s t := by
  unfold RowMapFrame at h
  unfold TakeFrame
  rw [h]

theorem countStarvation_frame (s : State) : TakeFrame s (countStarvation s) := by
  unfold countStarvation
  split <;> exact rfl

theorem emit_frame (unit : Byte) (head : Addr) (covered : List Addr) (s : State) :
    TakeFrame s (emit unit head covered s) := by
  unfold emit
  dsimp only
  exact TakeFrame.trans
    (t := { startRow (levelFrame s unit head) .level s with emission := some ⟨covered, (s.lum head).output⟩ })
    rfl (RowMapFrame.foldl (startCovered_frame _) covered _).take

/-- A level frame's start leaves its frame on the row and its emission record. -/
theorem emit_record (unit : Byte) (head : Addr) (covered : List Addr) (s : State) :
    (emit unit head covered s).rowTx = .onRow ⟨levelFrame s unit head, .level, s.portTime⟩ ∧
    (emit unit head covered s).emission = some ⟨covered, (s.lum head).output⟩ := by
  unfold emit
  have h := RowMapFrame.foldl (startCovered_frame (s.lum head).output) covered
    { startRow (levelFrame s unit head) .level s with emission := some ⟨covered, (s.lum head).output⟩ }
  unfold RowMapFrame at h
  dsimp only
  rw [h]
  exact ⟨rfl, rfl⟩

theorem takeLevel_frame (s : State) : TakeFrame s (takeLevel s) := by
  unfold takeLevel
  split
  · exact .refl s
  · split <;> exact emit_frame _ _ _ s

theorem takeForward_frame (s : State) : TakeFrame s (takeForward s) := by
  unfold takeForward
  split
  · exact .refl s
  · next e q _ =>
    dsimp only
    have start : TakeFrame s (startRow e.frame .forward { s with forward := { e with onRow := true } :: q }) := rfl
    split
    · exact start.trans (clearAligned_frame _ _).take
    · exact start

theorem takeScan_frame (s : State) : TakeFrame s (takeScan s) := by
  unfold takeScan
  split
  · exact .refl s
  · split <;> exact rfl

theorem takeAlignment_frame (s : State) : TakeFrame s (takeAlignment s) := by
  unfold takeAlignment
  split <;> exact rfl

theorem takeVerify_frame (s : State) : TakeFrame s (takeVerify s) := by
  unfold takeVerify
  split <;> exact rfl

theorem take_frame (s : State) (k : CandidateClass) : TakeFrame s (take s k) := by
  cases k
  · exact (countStarvation_frame s).trans (takeLevel_frame _)
  · exact (countStarvation_frame s).trans (takeForward_frame _)
  · exact takeScan_frame s
  · exact takeLevel_frame s
  · exact takeAlignment_frame s
  · exact takeVerify_frame s

/-- The arbiter touches only the row port, the taken block's state and the starvation count (R117). -/
theorem arbitrate_frame (s : State) : TakeFrame s (arbitrate s) := by
  unfold arbitrate
  split
  · split
    · exact take_frame s _
    · exact .refl s
  · exact .refl s

theorem arbitrate_of_not_ready (s : State) (h : s.rowTx ≠ .ready) : arbitrate s = s := by
  unfold arbitrate
  rw [if_neg h]

theorem arbitrate_of_none (s : State) (h : chosen s = none) : arbitrate s = s := by
  unfold arbitrate
  rw [h]
  split <;> rfl

theorem arbitrate_of_chosen (s : State) (k : CandidateClass) (h : s.rowTx = .ready) (c : chosen s = some k) :
    arbitrate s = take s k := by
  unfold arbitrate
  rw [if_pos h, c]

/-! ## Windows and strays -/

theorem frameOver_iff (s : State) (f : RowFrame) : frameOver s f = true ↔ f.endTime ≤ s.portTime := by
  simp [frameOver]

/-- When silence closes a window (R9). -/
theorem windowCloses_silence (s : State) (f : RowFrame) :
    windowCloses s f .silence = true ↔
      f.frame.opensWindow = true ∧ f.endTime + Config.windowUs ≤ s.portTime := by
  simp only [windowCloses, inWindow, Bool.and_eq_true, frameOver_iff, decide_eq_true_eq]
  exact ⟨fun h => ⟨h.1.1, h.2⟩, fun h => ⟨⟨h.1, Nat.le_trans (Nat.le_add_right _ _) h.2⟩, h.2⟩⟩

/-- When a frame closes a window (R9). -/
theorem windowCloses_frame (s : State) (f : RowFrame) (rx : Reception) (lasted : Nat) :
    windowCloses s f (.frame rx lasted) = true ↔
      f.frame.opensWindow = true ∧ f.endTime + lasted ≤ s.portTime ∧
        s.portTime ≤ f.endTime + lasted + Config.windowUs := by
  simp only [windowCloses, inWindow, Bool.and_eq_true, frameOver_iff, decide_eq_true_eq]
  exact ⟨fun h => ⟨h.1.1, h.2⟩, fun h => ⟨⟨h.1, Nat.le_trans (Nat.le_add_right _ _) h.2.1⟩, h.2⟩⟩

/-- A stray's beginning touches the mark of foreign activity and the transmitter (R113). -/
theorem strayBegins_frame (s : State) :
    strayBegins s = { s with rowForeign := (strayBegins s).rowForeign, rowTx := (strayBegins s).rowTx } := by
  unfold strayBegins
  split <;> exact rfl

/-- A stray's end touches also the last row activity and the counters (R11, R12). -/
theorem strayEnds_frame (s : State) :
    strayEnds s = { s with
      rowForeign := (strayEnds s).rowForeign, rowTx := (strayEnds s).rowTx
      rowActivity := (strayEnds s).rowActivity, counters := (strayEnds s).counters } := by
  unfold strayEnds countStray countRowFraming
  split
  · exact rfl
  · split <;> exact rfl
  · exact rfl
  · exact rfl
  · exact rfl

/-! ## Counting -/

/-- A window's outcome touches only the counters (R11, R22). -/
theorem countOutcome_frame (o : WindowOutcome) (s : State) :
    countOutcome o s = { s with counters := (countOutcome o s).counters } := by
  cases o <;> rfl

/-- Line activity touches the trunk's idle mark, the answer, the arbitration counter and the restart plan. -/
theorem lineActivity_frame (s : State) :
    lineActivity s = { s with
      trunkIdle := none, answer := none
      counters := (lineActivity s).counters, restart := (lineActivity s).restart } := by
  unfold lineActivity
  split
  · next h =>
    cases s
    cases h
    rfl
  · exact rfl

/-- A frame's end on the trunk touches the same, and time (R13). -/
theorem trunkFrameEnd_frame (after : Nat) (s : State) :
    trunkFrameEnd after s = { passTime after s with
      trunkIdle := some (passTime after s).portTime, answer := none
      counters := (trunkFrameEnd after s).counters, restart := (trunkFrameEnd after s).restart } := by
  unfold trunkFrameEnd frameHeard
  rw [lineActivity_frame]

/-! ## The relay -/

theorem endTagged_frame (e : FwdEntry) (o : DeferralOutcome) (noisy : Bool) (data : List Byte) (s : State) :
    UpstreamFrame s (endTagged e o noisy data s) := by
  unfold endTagged
  split
  · exact offerDeferred_frame _ s
  · exact .refl s

theorem deferredOutcome_frame (e : FwdEntry) (o : WindowOutcome) (s : State) :
    UpstreamFrame s (deferredOutcome e o s) := by
  cases o <;> exact endTagged_frame _ _ _ _ s

/-- A tag is found while fewer than 16 are in use (R135). -/
theorem nextTag_spec (last t : Tag) (inUse : List Tag) (h : nextTag last inUse = some t) : t ∉ inUse := by
  unfold nextTag at h
  have := List.find?_some h
  simpa using this

/-! ## The management unit -/

/-- Everything a WRITE ENTRY can answer and do (R156): one refusal that changes nothing, or OK with the write applied. -/
theorem writeTable_cases {α : Type} (n : Nat) (index : Byte) (parsed : Option α)
    (allowed : Fin n → α → State → Bool) (apply : Fin n → α → State → State) (s : State) :
    (∃ st, writeTable n index parsed allowed apply s = (.plain st, s)) ∨
    ∃ (h : index.toNat < n) (v : α), s.store.writing = none ∧ parsed = some v ∧
      allowed ⟨index.toNat, h⟩ v s = true ∧
      writeTable n index parsed allowed apply s = (.plain .ok, apply ⟨index.toNat, h⟩ v s) := by
  unfold writeTable
  split
  · next h =>
    split
    · exact .inl ⟨_, rfl⟩
    · next b =>
      split
      · exact .inl ⟨_, rfl⟩
      · next v =>
        split
        · next a =>
          refine .inr ⟨h, v, ?_, rfl, a, rfl⟩
          unfold State.storeBusy at b
          cases w : s.store.writing with
          | none => rfl
          | some x => simp [w] at b
        · exact .inl ⟨_, rfl⟩
  · exact .inl ⟨_, rfl⟩

/-- An answer touches only the answer (R155). -/
theorem respond_frame (req : Request) (p : Reply × State) :
    respond req p = { p.2 with answer := (respond req p).answer } := by
  unfold respond
  split <;> rfl

end Sys2Proof.Machine
end

