-- ==== Sys2Proof/Laws/Folds.lean ====
section
/-! SUPPORT. What a fold of entry updates leaves of each entry: the recomputation of a zone or a pass, an absorbed group, the covered entries of a level frame. -/

namespace Sys2Proof.Machine

/-- A fold of updates, each of which changes one entry by that entry's own fields and the configuration, changes each entry of the list once. -/
theorem foldl_lum {f : State → Addr → State}
    (frame : ∀ s a, RowMapFrame s (f s a))
    (other : ∀ s a b, b ≠ a → (f s a).lum b = s.lum b)
    (own : ∀ s t a, RowMapFrame s t → t.lum a = s.lum a → (f t a).lum a = (f s a).lum a)
    (as : List Addr) (h : as.Nodup) (s : State) (b : Addr) :
    (as.foldl f s).lum b = if b ∈ as then (f s b).lum b else s.lum b := by
  induction as generalizing s with
  | nil => simp
  | cons a as ih =>
    rw [List.foldl_cons, ih (List.nodup_cons.mp h).2]
    have na : a ∉ as := (List.nodup_cons.mp h).1
    by_cases e : b = a
    · subst e
      simp [na]
    · rw [other s a b e]
      by_cases m : b ∈ as
      · rw [if_pos m, if_pos (List.mem_cons_of_mem a m)]
        exact own s (f s a) b (frame s a) (other s a b e)
      · simp [m, e]

/-- An update's effect on its own entry depends only on that entry. -/
theorem outputUpdate_own (a : Addr) (o : Nat) (urgent : Bool) (fade : Fade) (s t : State)
    (h : t.lum a = s.lum a) :
    (outputUpdate a o urgent fade t).lum a = (outputUpdate a o urgent fade s).lum a := by
  unfold outputUpdate
  rw [h]
  split
  · exact h
  · unfold applyUpdate
    rw [h]
    dsimp only
    split
    · split
      · simp
      · show ((t.setLum a _).lum a) = ((s.setLum a _).lum a)
        simp
    · split
      · show ((t.setLum a _).lum a) = ((s.setLum a _).lum a)
        simp
      · simp
    · simp
    · simp

theorem updateFade_frame {s t : State} (h : RowMapFrame s t) (a : Addr) (l : t.lum a = s.lum a) :
    t.updateFade a = s.updateFade a := by
  unfold State.updateFade State.zoneConfig
  rw [h.row a, h.keeps.1, l]

theorem recompute_own (s t : State) (a : Addr) (h : RowMapFrame s t) (l : t.lum a = s.lum a) :
    (recompute t a).lum a = (recompute s a).lum a := by
  unfold recompute State.outputOf
  rw [h.outputFor, l, updateFade_frame h a l]
  exact outputUpdate_own a _ _ _ s t l

theorem recompute_other (s : State) (a b : Addr) (h : b ≠ a) : (recompute s a).lum b = s.lum b :=
  (outputUpdate_lum a b _ _ _ s).1 h

/-- A recomputation of several entries recomputes each once (R76, R80). -/
theorem foldl_recompute_lum (as : List Addr) (h : as.Nodup) (s : State) (b : Addr) :
    (as.foldl recompute s).lum b = if b ∈ as then (recompute s b).lum b else s.lum b :=
  foldl_lum recompute_frame recompute_other recompute_own as h s b

/-- Handing outputs to a list of entries is recomputing them in its order (R76, R80). -/
theorem handOutputs_eq (as : List Addr) (s : State) : s.handOutputs as = as.foldl recompute s := rfl

/-- Handing outputs touches only the entries and the pending list. -/
theorem handOutputs_frame (as : List Addr) (s : State) : RowMapFrame s (s.handOutputs as) :=
  RowMapFrame.foldl recompute_frame as s

/-- What each entry is after a list of entries has been handed its outputs. -/
theorem handOutputs_lum (as : List Addr) (h : as.Nodup) (s : State) (b : Addr) :
    (s.handOutputs as).lum b = if b ∈ as then (recompute s b).lum b else s.lum b :=
  foldl_recompute_lum as h s b

theorem absorb_own (level : Nat) (fade : Fade) (s t : State) (a : Addr) (h : RowMapFrame s t)
    (l : t.lum a = s.lum a) : (absorb level fade t a).lum a = (absorb level fade s a).lum a := by
  have k : RowMapFrame (s.setLum a { s.lum a with base := level, baseFade := fade })
      (t.setLum a { t.lum a with base := level, baseFade := fade }) := by
    unfold RowMapFrame at h ⊢
    rw [h]
    rfl
  unfold absorb
  dsimp only
  unfold State.outputOf
  rw [k.outputFor, lum_setLum_self, lum_setLum_self]
  rw [show ({ t.lum a with base := level, baseFade := fade } : Lum) = { s.lum a with base := level, baseFade := fade } by rw [l]]
  exact outputUpdate_own a _ _ _ _ _ (by simp)

theorem absorb_other (level : Nat) (fade : Fade) (s : State) (a b : Addr) (h : b ≠ a) :
    (absorb level fade s a).lum b = s.lum b := by
  unfold absorb
  dsimp only
  rw [(outputUpdate_lum a b _ _ _ _).1 h, lum_setLum_of_ne _ _ h]

/-- An absorbed group is absorbed into each member once (R100, R101). -/
theorem absorbAll_lum (level : Nat) (fade : Fade) (as : List Addr) (h : as.Nodup) (s : State) (b : Addr) :
    (absorbAll level fade as s).lum b = if b ∈ as then (absorb level fade s b).lum b else s.lum b :=
  foldl_lum (absorb_frame level fade) (absorb_other level fade) (absorb_own level fade) as h s b

/-- The covered entries of a level frame that starts (R31). -/
theorem foldl_startCovered_lum (level : Nat) (as : List Addr) (h : as.Nodup) (s : State) (b : Addr) :
    (as.foldl (startCovered level) s).lum b =
      if b ∈ as then
        { s.lum b with shadow := .inFlight, sent := level, sentValid := true, urgent := false }
      else s.lum b := by
  rw [foldl_lum (startCovered_frame level) ?_ ?_ as h s b]
  · by_cases m : b ∈ as
    · rw [if_pos m, if_pos m, startCovered_lum, if_pos rfl]
    · rw [if_neg m, if_neg m]
  · intro s a b n
    rw [startCovered_lum, if_neg n]
  · intro s t a _ l
    rw [startCovered_lum, startCovered_lum, if_pos rfl, if_pos rfl, l]

/-- The covered entries of a level frame that completes (R32). -/
theorem foldl_completeCovered_lum (level : Nat) (as : List Addr) (h : as.Nodup) (s : State) (b : Addr) :
    (as.foldl (completeCovered level) s).lum b =
      if b ∈ as then (completeCovered level s b).lum b else s.lum b := by
  refine foldl_lum (completeCovered_frame level) ?_ ?_ as h s b
  · intro s a b n
    rw [completeCovered_lum, if_neg (fun q => n q.1)]
  · intro s t a f l
    rw [completeCovered_lum, completeCovered_lum, f.isLum a, l]

/-- The addresses stand once each, in ascending order. -/
theorem addresses_nodup : addresses.Nodup := List.nodup_finRange 64

theorem members_nodup (s : State) (z : ZoneId) : (s.members z).Nodup := addresses_nodup.filter _

/-- Everything a taken level candidate leaves of its frame and record: nothing without a pending entry; else a record that covers no entry twice, and a SET LEVEL on the row that carries its level. -/
theorem takeLevel_record (s : State) :
    takeLevel s = s ∨
    ∃ (m : Emission) (f : RowFrame),
      (takeLevel s).emission = some m ∧ m.covered.Nodup ∧ (takeLevel s).rowTx = .onRow f ∧
      f.owner = .level ∧ f.frame.kind = .setLevel ∧ f.frame.payload.take 2 = bytes16 m.level := by
  have start : ∀ (unit : Byte) (head : Addr) (covered : List Addr), covered.Nodup →
      ∃ (m : Emission) (f : RowFrame),
        (emit unit head covered s).emission = some m ∧ m.covered.Nodup ∧
        (emit unit head covered s).rowTx = .onRow f ∧ f.owner = .level ∧ f.frame.kind = .setLevel ∧
        f.frame.payload.take 2 = bytes16 m.level := by
    intro unit head covered h
    obtain ⟨row, record⟩ := emit_record unit head covered s
    exact ⟨_, _, record, h, row, rfl, rfl, rfl⟩
  unfold takeLevel
  split
  · exact .inl rfl
  · next head _ =>
    right
    split
    · next z covered zone =>
      refine start _ _ _ ?_
      unfold zoneCover at zone
      split at zone
      · cases zone
      · split at zone <;> cases zone
        exact members_nodup s _
    · exact start _ _ _ (by simp)

end Sys2Proof.Machine
end

