-- ==== Sys2Proof/WellFormed.lean ====
section
/-! DEFINITION. Which commands can come from the wire as their row: payloads within the frame's 12 bytes, and codes that belong to the row and not to another. The step does not read this check (log entry 26). -/

namespace Sys2Proof

/-- A payload of `required` bytes and these further ones fits a frame (R4). -/
def fitsPayload (required : Nat) (extra : List Byte) : Bool :=
  decide (required + extra.length ≤ Config.maxPayload)

/-- The number of values a LOAD COEFFICIENTS channel byte announces (11, MANAGE and RESPONSE). -/
def announcedValues (channelByte : Byte) : Nat := channelByte.toNat / 16 % 4 + 1

/-- The mode byte of a SET ZONE MODE row: the row's own code, or a code that no row owns (R89). -/
def modeByteOfRow (own : Nat) (mode : Byte) : Bool :=
  mode.toNat == own || mode.toNat == 0 || decide (3 < mode.toNat)

/-- The table byte of WRITE_ENTRY_READ_ONLY names no writable table (R157). -/
def notWritableTable (table : Byte) : Bool :=
  !([1, 2, 3, 5, 6, 7].contains table.toNat)

/-- A command that its row can bring. -/
def Instr.wellFormed : Instr → Bool
  | .powerOn _ _ _ => true
  | .rowSenseChange _ _ => true
  | .rowPowerAbsent _ => true
  | .rowPowerPresent _ => true
  | .trunkFrameError _ _ => true
  | .trunkFrameIgnored _ _ => true
  | .trunkFrameDiscarded _ _ => true
  | .trunkLineActivity _ => true
  | .trunkAnswerStart _ => true
  | .trunkTransmitStart _ => true
  | .arbitrationLoss _ _ => true
  | .trunkFrameSent _ => true
  | .setLevelUnit _ _ _ _ _ extra => fitsPayload 3 extra
  | .setLevelGroup _ _ _ _ _ extra => fitsPayload 3 extra
  | .setLevelBroadcast _ _ _ _ extra => fitsPayload 3 extra
  | .deviceConfigSetGroups _ _ _ _ extra => fitsPayload 3 extra
  | .deviceConfig _ _ _ subKind extra => fitsPayload 1 extra && subKind != 1
  | .queryTargetLevel _ _ extra => fitsPayload 1 extra
  | .queryLightReading _ _ extra => fitsPayload 1 extra
  | .queryOtherItem _ _ item extra => fitsPayload 1 extra && item != 1 && item != 8
  | .readEntryPart0 _ _ _ _ part => part != 1
  | .readEntryPart1 _ _ _ _ => true
  | .writeRowMapEntry _ _ _ _ => true
  | .writeZoneConfig _ _ _ _ => true
  | .writeChannelConfig _ _ _ _ => true
  | .writeTrunkGroupMap _ _ _ _ => true
  | .writeEventRoute _ _ _ _ => true
  | .writeSettings _ _ _ _ => true
  | .writeEntryReadOnly _ _ table _ => notWritableTable table
  | .loadCoefficients _ _ _ channelByte values => values.length == announcedValues channelByte
  | .setZoneModeHold _ _ _ mode => modeByteOfRow 2 mode
  | .setZoneModeManual _ _ _ mode => modeByteOfRow 3 mode
  | .setZoneModeTrack _ _ _ mode => modeByteOfRow 1 mode
  | .triggerScan _ _ => true
  | .commit _ _ => true
  | .restart _ _ => true
  | .readStatusPart0 _ _ part => part != 1
  | .readStatusPart1 _ _ => true
  | .unknownOperation _ _ op => op.toNat == 0 || decide (8 < op.toNat)
  | .warmRestart _ => true
  | .storeWriteEnd _ _ => true
  | .rowGapEnd _ => true
  | .levelFrameComplete _ => true
  | .forwardFrameComplete _ => true
  | .untaggedWindowClose _ _ => true
  | .rowStrayFrame _ _ => true
  | .scanQueryOutcome _ _ => true
  | .periodicTick _ => true
  | .continuousRestart _ => true
  | .deferredQueryOutcome _ _ => true
  | .deferralDeadline _ _ => true
  | .verifyIntervalExpiry _ => true
  | .verifyOutcome _ _ => true
  | .alignmentOutcome _ _ => true
  | .alignmentHoldExpiry _ => true
  | .intervalSaturation _ => true

end Sys2Proof
end

