-- ==== Sys2Proof/Tests/Slice0.lean ====
section
/-! SUPPORT. The model's own tests: the well-formedness smoke tests, the spec's worked values, one step on small states, and states that meet the hypotheses of the statements. -/

namespace Sys2Proof.Tests

set_option Elab.async false

open Sys2Proof Sys2Proof.Machine

/-! ## Helpers -/

/-- The state after a command. -/
def after (c : Instr) (s : State) : State :=
  match exec c s with
  | .next t => t
  | .fault _ => s
  | .refused _ => s

/-- Tables of a small segment: luminaires 0 to 2 in zone 0, luminaire 3 and 63 without a zone, sensor 9 on channel 0 with the whole weight of zone 0. -/
def demoTables : Tables :=
  { defaultTables with
    rowMap := Vector.ofFn fun a : Fin 64 =>
      if a.val < 3 then ⟨.luminaire, some 0, 10⟩
      else if a.val = 3 ∨ a.val = 63 then ⟨.luminaire, none, 10⟩
      else if a.val = 9 then ⟨.sensor, none, 10⟩
      else ⟨.absent, none, 10⟩
    zones := defaultTables.zones.set 0 ⟨true, 500, 400, 30, 15, true, 600, 5⟩
    channels := defaultTables.channels.set 0 ⟨some 9, 1024⟩
    coeffs := defaultTables.coeffs.set 0 ((Vector.replicate 8 0).set 0 1024)
    groups := (Vector.replicate 16 0).set 0 0x3 }

/-- A luminaire whose driver is known to be at level 1000, aligned. -/
def syncedLum : Lum := ⟨1000, 0, 1000, .synced, 1000, true, 0, false, true, .good, 0, 0⟩

/-- A luminaire with an update to 500 waiting. -/
def pendingLum : Lum :=
  { syncedLum with base := 500, output := 500, shadow := .pending, urgent := true, emissionFade := 2 }

/-- The segment at rest with row power, 100 s after power-on, the row gap running. -/
def demo : State :=
  { State.reset with
    clock := 100000
    portTime := 100000000
    tables := demoTables
    lums := Vector.ofFn fun a : Fin 64 =>
      if a.val < 4 ∨ a.val = 63 then syncedLum else Lum.initial
    zones := State.reset.zones.set 0 ⟨.track, 1000, 0, ⟨99000, false⟩, none, false, false⟩
    scan := { Scan.initial with state := .idle, start := ⟨99000, false⟩ }
    power := ⟨true, true, 0⟩
    rowTx := .gap
    rowActivity := 99990000
    upstream := []
    trunkIdle := some 99000000
    verify := { Verify.initial with last := ⟨100000, false⟩ } }

/-- The same segment without a luminaire. -/
def repeater : State :=
  { demo with
    tables := { demoTables with rowMap := defaultTables.rowMap }
    lums := Vector.replicate 64 Lum.initial }

/-- Entries 0 to 2 wait with one level and fade. -/
def waiting : State :=
  { demo with
    lums := ((demo.lums.set 0 pendingLum).set 1 pendingLum).set 2 pendingLum
    pendingList := [1, 0, 2] }

/-- A row frame of `owner` on the row since 39 ms, so that a short one ended some 30 ms ago. -/
def onRow (f : Frame) (o : RowOwner) (s : State) : State :=
  { s with rowTx := .onRow ⟨f, o, s.portTime - 39000⟩ }

/-- A verify query to entry 1 on the row. -/
def verifying : State :=
  { onRow ⟨.query, 0, 1, [1]⟩ .verify demo with
    verify := { demo.verify with record := some ⟨1, 1000⟩ } }

/-- An alignment request to entry 1 on the row. -/
def aligning : State :=
  { onRow ⟨.deviceConfig, 0, 1, [1, 0, 1]⟩ .alignment demo with
    lums := demo.lums.set 1 { syncedLum with aligned := false }
    verify := { demo.verify with alignRecord := some ⟨1, some 0, false⟩ } }

/-- The scan query of channel 0 on the row. -/
def scanning : State :=
  { onRow ⟨.query, 0, 9, [8]⟩ (.scan 0) demo with
    scan := { demo.scan with state := .scanning, lastQueried := some 0, onRow := true } }

/-- The zone frame of entries 0 to 2 on the row. -/
def emitting : State :=
  { onRow ⟨.setLevel, 0, 64, [1, 244, 2]⟩ .level demo with
    lums := Vector.ofFn fun a : Fin 64 =>
      if a.val < 3 then { pendingLum with shadow := .inFlight, sent := 500, urgent := false }
      else demo.lum a
    emission := some ⟨[0, 1, 2], 500⟩ }

/-- A QUERY with this tag, or none, in the forward queue. -/
def fwdQuery (tag : Option Tag) (row : Bool) (deadline : Option Clock) : FwdEntry :=
  ⟨⟨.query, 0, 20, [0]⟩, tag, row, 20, deadline⟩

/-- A tagged QUERY on the row. -/
def relaying : State :=
  { onRow ⟨.query, 0, 20, [0]⟩ .forward demo with
    forward := [fwdQuery (some 0) true (some 100400)], lastTag := 0, tagsInUse := [0] }

/-- A whole frame that ends now, without noise. -/
def heard (f : Frame) : WindowReply := .frame ⟨f.bytes, false, false⟩ f.time

/-- The same with a noise mark. -/
def heardNoisy (f : Frame) : WindowReply := .frame ⟨f.bytes, false, true⟩ f.time

/-- A MANAGE request to the part alone. -/
def ask : Request := ⟨.own, 5⟩

/-! ## Well-formedness: what the check refuses -/

theorem test_wf_payload_too_long :
    (Instr.setLevelUnit 0 .own 0 0 0 (List.replicate 10 0)).wellFormed = false ∧
    (Instr.setLevelGroup 0 .own 0 0 0 (List.replicate 10 0)).wellFormed = false ∧
    (Instr.setLevelBroadcast 0 .own 0 0 (List.replicate 10 0)).wellFormed = false ∧
    (Instr.deviceConfigSetGroups 0 .own .all 0 (List.replicate 10 0)).wellFormed = false ∧
    (Instr.deviceConfig 0 .own .all 2 (List.replicate 12 0)).wellFormed = false ∧
    (Instr.queryTargetLevel 0 0 (List.replicate 12 0)).wellFormed = false ∧
    (Instr.queryLightReading 0 0 (List.replicate 12 0)).wellFormed = false ∧
    (Instr.queryOtherItem 0 0 2 (List.replicate 12 0)).wellFormed = false := by decide

theorem test_wf_longest_payload :
    (Instr.setLevelUnit 0 .own 0 0 0 (List.replicate 9 0)).wellFormed = true ∧
    (Instr.queryOtherItem 0 0 2 (List.replicate 11 0)).wellFormed = true := by decide

theorem test_wf_set_groups_is_its_own_row :
    (Instr.deviceConfig 0 .own .all 1 []).wellFormed = false := by decide

theorem test_wf_item_of_another_row :
    (Instr.queryOtherItem 0 0 1 []).wellFormed = false ∧
    (Instr.queryOtherItem 0 0 8 []).wellFormed = false := by decide

theorem test_wf_part_of_another_row :
    (Instr.readEntryPart0 0 ask 1 0 1).wellFormed = false ∧
    (Instr.readStatusPart0 0 ask 1).wellFormed = false := by decide

theorem test_wf_writable_table :
    ([1, 2, 3, 5, 6, 7].all fun t =>
      !(Instr.writeEntryReadOnly 0 ask (BitVec.ofNat 8 t) 0).wellFormed) = true := by decide

theorem test_wf_coefficient_count :
    (Instr.loadCoefficients 0 ask 0 0x10 [1]).wellFormed = false ∧
    (Instr.loadCoefficients 0 ask 0 0x10 [1, 2]).wellFormed = true := by decide

theorem test_wf_mode_of_another_row :
    (Instr.setZoneModeHold 0 ask 0 1).wellFormed = false ∧
    (Instr.setZoneModeManual 0 ask 0 2).wellFormed = false ∧
    (Instr.setZoneModeTrack 0 ask 0 3).wellFormed = false := by decide

theorem test_wf_known_operation :
    ([1, 2, 3, 4, 5, 6, 7, 8].all fun n =>
      !(Instr.unknownOperation 0 ask (BitVec.ofNat 8 n)).wellFormed) = true := by decide

/-! ## Worked values -/

/-- The CRC-16 of the digits 1 to 9 with this generator and initial value. -/
theorem test_crc16_digits : crc16 [49, 50, 51, 52, 53, 54, 55, 56, 57] = 0x29B1 := by decide +kernel

/-- The worked check of 11: the register after each byte of a scan query. -/
theorem test_worked_check :
    crc8 [0x21] = 0xE7 ∧ crc8 [0x21, 0x03] = 0xB2 ∧ crc8 [0x21, 0x03, 0x28] = 0xCF ∧
    (Frame.mk .query 3 40 [8]).bytes = [0x21, 0x03, 0x28, 0x08, 0x5B] := by decide +kernel

/-- The check byte leaves the register at 0, and the worked SET LEVEL frame lasts 59 cells. -/
theorem test_check_byte_closes :
    crc8 (Frame.mk .setLevel 3 64 [1, 244, 5]).bytes = 0 ∧
    (Frame.mk .setLevel 3 64 [1, 244, 5]).time = 59 * 208 := by decide +kernel

/-- A frame spelled on the line is received as its bytes; one disturbed sample gives the noise mark, and a cell without mid-cell transition breaks the frame off. -/
theorem test_receive_line :
    receive (Line.clean ⟨.reply, 0, 9, [1, 2, 0]⟩) = ⟨(Frame.mk .reply 0 9 [1, 2, 0]).bytes, false, false⟩ ∧
    receive ((⟨false, true, false⟩, ⟨true, true, true⟩) :: ((driveBytes [0x5A]).tail.map cleanCell)) =
      ⟨[0x5A], false, true⟩ ∧
    receive [cleanCell (false, true), cleanCell (true, true)] = ⟨[], true, false⟩ := by decide +kernel

/-- The worked check of 11: header 0x21 goes on the line as 1, 0, 0, 0, 0, 1, 0, 0 after the start cell. -/
theorem test_bit_order :
    driveBytes [0x21] = driveBit true :: [true, false, false, false, false, true, false, false].map driveBit ∧
    driveBit true = (false, true) ∧ driveBit false = (true, false) ∧
    receive ((true :: [true, false, false, false, false, true, false, false]).map fun b => cleanCell (!b, b)) =
      ⟨[0x21], false, false⟩ := by decide +kernel

/-- R13: class 1 of segment 15 waits 30.75 ms, class 2 of segment 0 waits 30 ms. -/
theorem test_qualification : qualification 1 15 = 30750 ∧ qualification 2 0 = 30000 := by decide

/-- R69, R71, R72, R73 at their corners. -/
theorem test_trim_arithmetic :
    substitute 1024 777 = 777 ∧ substitute 4095 20000 = 20000 ∧ substitute 1 511 = 0 ∧ substitute 1 512 = 1 ∧
    rawRatio 0 0 = 0 ∧ rawRatio 500 500 = 0 ∧ rawRatio 500 499 = 2 ∧ rawRatio 2000 1999 = 1 ∧
    rawRatio 500 0 = 1000 ∧ deadBanded 15 500 515 = 515 ∧ deadBanded 15 500 516 = 500 ∧
    deadBanded 15 0 10 = 0 ∧ deadBanded 15 1000 990 = 1000 := by decide

/-- The entry layouts of 11: a zone record and a settings record. -/
theorem test_entry_layouts :
    zoneBytes ⟨true, 500, 400, 30, 15, false, 600, 5⟩ = [0x85, 15, 0x1F, 0x41, 0x90, 0x01, 0xE2, 0x58] ∧
    settingsBytes ⟨0, 7, .periodic, 2000, none, 250, 3, 3, 1000⟩ =
      [0x07, 0x33, 0x4F, 0x07, 0xD0, 0x03, 0xE8, 0xFA] := by decide

/-! ## The step, time, power-on and restart -/

theorem test_step_takes_the_front :
    step { demo with pending := [.rowGapEnd 1, .commit 0 ask] } =
      exec (.rowGapEnd 1) { demo with pending := [.commit 0 ask] } := rfl

theorem test_step_idles :
    demo.pending = [] ∧ demo.subMs < 1000 ∧ step demo = .next (passTime 1000 demo) :=
  ⟨rfl, by decide +kernel, rfl⟩

/-- Half a millisecond and 2.6 ms are three whole milliseconds and the rest, and the clock wraps. -/
theorem test_time_passes :
    passTime 2600 { demo with subMs := 500 } = { demo with clock := 100003, subMs := 100, portTime := 100002600 } ∧
    (passTime 1000 { demo with clock := 0xFFFFFFFF }).clock = 0 := by decide +kernel

theorem test_interval_saturates :
    (Stamp.mk 0 false).interval 2147483647 = 2147483647 ∧ (Stamp.mk 1 false).interval 0 = 2147483648 ∧
    ((Stamp.mk 0 false).saturate 2147483648).interval 5 = 2147483648 ∧
    (Stamp.mk 0 false).saturate 2147483647 = ⟨0, false⟩ ∧
    (Stamp.mk 0 false).interval 2147483648 = 2147483648 ∧ (Stamp.mk 5 true).interval 6 = 2147483648 ∧
    (Stamp.mk 7 false).saturate 0x80000007 = ⟨7, true⟩ := by decide

theorem test_interval_saturation_command :
    (after (.intervalSaturation 0) { demo with verify := { demo.verify with last := ⟨100001, false⟩ } }).verify.last =
      ⟨100001, true⟩ ∧
    (after (.intervalSaturation 0) demo).channels = (demo.channels.set 0 ⟨0, .unseen, 0, 0, ⟨0, false⟩⟩) := by
  decide +kernel

theorem test_image_passes : (imageOf demoTables).passes = true := by
  have h : demoTables.inRange = true := by decide +kernel
  simp [StoreImage.passes, imageOf, h]

/-- An image with another CRC fails its check, and so does one with a field out of range. -/
theorem test_image_fails :
    (StoreImage.mk demoTables (crc16 demoTables.bytes ^^^ 1)).passes = false ∧
    (imageOf { demoTables with settings := { demoTables.settings with period := 249 } }).passes = false := by
  have range : demoTables.inRange = true := by decide +kernel
  have wrong : ({ demoTables with settings := { demoTables.settings with period := 249 } } : Tables).inRange = false := by
    decide +kernel
  refine ⟨?_, by simp [StoreImage.passes, imageOf, wrong]⟩
  have other : ∀ x : BitVec 16, x ^^^ 1 ≠ x := by
    intro x h
    have bit := congrArg (fun y => y.getLsbD 0) h
    simp at bit
  simpa [StoreImage.passes, range] using other (crc16 demoTables.bytes)

/-- Power-on with an image that passes, with an image of a wrong field, and with a store write in progress. -/
theorem test_power_on_loads_or_defaults :
    loadTables (some (imageOf demoTables)) = (demoTables, .powerOn) ∧
    loadTables (some ⟨{ demoTables with settings := ⟨0, 7, .off, 249, none, 250, 3, 3, 1000⟩ }, 0⟩) =
      (defaultTables, .defaults) ∧
    storedImage { demo with store := ⟨some (imageOf demoTables), some ⟨imageOf demoTables, .zero⟩, .none⟩ } = none := by
  refine ⟨by simp only [loadTables, test_image_passes, if_true]; rfl, by decide +kernel, rfl⟩

theorem test_power_on_reset : after (.powerOn 0 0 false) State.reset = State.reset := by decide +kernel

/-- A warm restart that is due, one after its answer, and one that is not. -/
theorem test_warm_restart :
    (after (.warmRestart 0) { demo with restart := .due }).pendingList = [0, 1, 2, 3, 63] ∧
    (after (.warmRestart 0) { demo with restart := .due, power := ⟨false, false, 0⟩, rowTx := .powerless }).rowTx =
      .powerless ∧
    (after (.warmRestart 0)
      { demo with
        restart := .afterAnswer
        trunkTx := .answering ⟨.response, 0, 126, [0]⟩ (100000000 - 43 * 208) }).clock = 0 ∧
    after (.warmRestart 7) demo = passTime 7 demo ∧
    (after (.warmRestart 0) { demo with restart := .due, rowForeign := true }).rowForeign = true ∧
    (after (.warmRestart 0) { demo with restart := .due }).upstream =
      [⟨.notice ⟨.restarted .warm, 0, 7⟩, false, false⟩] ∧
    (after (.warmRestart 0) { demo with restart := .due }).scan.next = some 0 ∧
    (after (.warmRestart 0) { demo with restart := .due, lums := demo.lums.set 0 { syncedLum with base := 3 } }).lum 0 =
      ⟨3, 0, 10, .pending, 1000, false, 0, false, false, .good, 0, 0⟩ := by decide +kernel

/-! ## The invariants hold of states in use -/

theorem test_invariants_row_map : emitting.RowMapOk ∧ waiting.RowMapOk ∧ demo.RowMapOk := by
  refine ⟨?_, ?_, ?_⟩ <;>
  · unfold State.RowMapOk State.EntryOk
    decide +kernel

/-- The zone frame of entries 0 to 2 carries their S. -/
theorem test_invariants_flight : emitting.FlightOk ∧ emitting.OwnersOk := by
  refine ⟨⟨by decide +kernel, fun a h => ⟨_, rfl, ?_⟩, fun m h => ?_⟩, ?_⟩
  · have all : ∀ a, (emitting.lum a).shadow = .inFlight →
        a ∈ ([0, 1, 2] : List Addr) ∧ (emitting.lum a).sent = 500 := by decide +kernel
    exact all a h
  · cases h
    refine ⟨by decide, fun f hf _ => ?_⟩
    cases hf
    decide +kernel
  · refine ⟨by decide +kernel, ?_, by decide +kernel, by decide +kernel, by decide +kernel, by decide +kernel,
      by decide +kernel, by decide +kernel, by decide +kernel⟩
    intro f e q _ _ h
    cases h

theorem test_invariants_capacities : relaying.CapacitiesOk := by
  unfold State.CapacitiesOk Counters.Ok
  decide +kernel

theorem test_invariants_ranges : waiting.RangesOk := by
  refine ⟨by decide +kernel, ?_, ?_, ?_, ?_⟩
  · unfold Lum.Ok; decide +kernel
  · unfold ZoneStatus.Ok; decide +kernel
  · unfold ChannelStatus.Ok; decide +kernel
  · intro m h; cases h

theorem test_invariants_modes : demo.ModesOk := by
  unfold State.ModesOk
  decide +kernel

/-- An upstream queue with one deferred reply and two notices. -/
def queued : List UpEntry :=
  [⟨.deferred ⟨4, .answered, false, [1], 20⟩, false, false⟩,
   ⟨.notice ⟨.rowPowerLost, 5, 7⟩, false, false⟩,
   ⟨.notice ⟨.luminaireFault 3 .miss 9, 6, 4⟩, true, false⟩]

theorem test_invariants_upstream : State.UpstreamOk { demo with upstream := queued } := by
  simp [State.UpstreamOk, queued, UpEntry.rank, Event.sameSubject, Event.kind]

theorem test_invariants_upstream_meets_ranges : State.RangesOk { demo with upstream := queued } := by
  refine ⟨by decide +kernel, ?_, ?_, ?_, ?_⟩
  · unfold Lum.Ok; decide +kernel
  · unfold ZoneStatus.Ok; decide +kernel
  · unfold ChannelStatus.Ok; decide +kernel
  · intro m h; cases h

theorem test_invariants_owners : relaying.OwnersOk ∧ relaying.ModesOk := by
  refine ⟨⟨by decide +kernel, ?_, by decide +kernel, by decide +kernel, by decide +kernel, by decide +kernel,
    by decide +kernel, by decide +kernel, by decide +kernel⟩, ?_⟩
  · intro f e q hf _ hq
    cases hf; cases hq; rfl
  · unfold State.ModesOk; decide +kernel

theorem test_invariants_tags :
    State.TagsOk { relaying with upstream := queued, tagsInUse := [0, 4] } := by
  unfold State.TagsOk
  decide +kernel

theorem test_invariants_meet_a_step :
    step { emitting with pending := [.levelFrameComplete 0] } = exec (.levelFrameComplete 0) emitting ∧
    (after (.levelFrameComplete 0) emitting).lum 1 = { pendingLum with shadow := .synced, sent := 500, urgent := false } := by
  exact ⟨rfl, by decide +kernel⟩

/-! ## Reception -/

theorem test_line_spells_bytes :
    (Line.clean ⟨.query, 0, 1, [1]⟩).map (fun c => (c.1.level, c.2.level)) =
      driveBytes (Frame.mk .query 0 1 [1]).bytes := by decide +kernel

/-- The commands of frames that are ignored, in error and discarded. -/
theorem test_undelivered_frames_are_commands :
    trunkCommand 3 7 ⟨[0x13, 4, 0], true, false⟩ = .trunkFrameIgnored 7 ⟨[0x13, 4, 0], true, false⟩ ∧
    trunkCommand 3 7 ⟨[0x13], true, false⟩ = .trunkFrameError 7 ⟨[0x13], true, false⟩ ∧
    trunkCommand 3 7 ⟨[0x20, 3, 0, 0], false, false⟩ = .trunkFrameError 7 ⟨[0x20, 3, 0, 0], false, false⟩ ∧
    trunkCommand 3 7 ⟨(Frame.mk .setLevel 3 80 [0, 0, 0]).bytes, false, false⟩ =
      .trunkFrameDiscarded 7 ⟨(Frame.mk .setLevel 3 80 [0, 0, 0]).bytes, false, false⟩ := by decide +kernel

/-- Lines that break off after a byte and three bits, by ending there and by a cell without mid-cell transition; and at the start cell. -/
theorem test_receive_broken_line :
    let line := (driveBytes [0x5A] ++ [true, false, true].map driveBit).map cleanCell
    let flat := cleanCell (true, true)
    receive line = ⟨[0x5A], true, false⟩ ∧
    receive (line ++ flat :: (driveBytes [1]).map cleanCell) = ⟨[0x5A], true, false⟩ ∧
    receive ((driveBytes [0x5A]).map cleanCell ++ [flat]) = ⟨[0x5A], true, false⟩ ∧
    receive [flat] = ⟨[], true, false⟩ := by decide +kernel

/-- A mismatch in either direction, at a half-cell that both lists reach. -/
theorem test_arbitration_mismatch :
    arbitrationMismatch [true, false, true] [true, false, false] = true ∧
    arbitrationMismatch [true, false] [true, true] = true ∧
    arbitrationMismatch [true, false] [true] = false := by decide

/-- A reception is foreign, of a wrong check byte, a framing error by kind and by length, discarded by unit and by form, or delivered; the unit bytes are those at the ends of the ranges. -/
theorem test_trunk_verdicts :
    trunkVerdict 3 ⟨(Frame.mk .setLevel 4 0 [0, 0, 0]).bytes, false, false⟩ = .ignored ∧
    trunkVerdict 3 ⟨[0x13, 4], true, false⟩ = .framing ∧ trunkVerdict 3 ⟨[0x13, 4, 0], true, false⟩ = .ignored ∧
    trunkVerdict 3 ⟨[0x1C, 4, 0, 1], true, false⟩ = .ignored ∧ trunkVerdict 3 ⟨[0x1D, 4, 0, 1], false, false⟩ = .framing ∧
    trunkVerdict 3 ⟨[0x13, 255, 0, 1], false, false⟩ = .framing ∧
    trunkVerdict 3 ⟨(Frame.mk .setLevel 3 0 [0, 0, 0]).body ++ [0], false, false⟩ = .check ∧
    trunkVerdict 3 ⟨(Frame.mk .notice 255 0 []).bytes, false, false⟩ = .framing ∧
    trunkVerdict 3 ⟨(Frame.mk .setLevel 3 79 [0, 0]).bytes, false, false⟩ = .framing ∧
    trunkVerdict 3 ⟨(Frame.mk .setLevel 3 80 [0, 0, 0]).bytes, false, false⟩ = .discarded ∧
    trunkVerdict 3 ⟨(Frame.mk .setLevel 3 126 [0, 0, 0]).bytes, false, true⟩ = .discarded ∧
    trunkVerdict 3 ⟨(Frame.mk .query 3 64 [1]).bytes, false, false⟩ = .discarded ∧
    trunkVerdict 3 ⟨(Frame.mk .manage 3 127 [5, 0]).bytes, false, false⟩ = .discarded ∧
    trunkVerdict 3 ⟨(Frame.mk .setLevel 3 79 [0, 0, 0]).bytes, false, true⟩ =
      .delivered ⟨.setLevel, 3, 79, [0, 0, 0]⟩ ∧
    trunkVerdict 3 ⟨(Frame.mk .query 3 63 [1]).bytes, false, false⟩ = .delivered ⟨.query, 3, 63, [1]⟩ := by
  decide +kernel

/-- Frames of the invalid kind codes 0, 9 and 15: a framing error with the right check byte, a check error with a wrong one, on the trunk and in a row window. -/
theorem test_invalid_kinds :
    let frame := fun h : Byte => [h, 3, 9] ++ [crc8 [h, 3, 9]]
    let request : Frame := ⟨.query, 3, 9, [2]⟩
    ([0x00, 0x90, 0xF0].all fun h =>
      trunkVerdict 3 ⟨frame h, false, false⟩ == .framing &&
      trunkVerdict 3 ⟨[h, 3, 9, crc8 [h, 3, 9] + 1], false, false⟩ == .check &&
      windowOutcome request (.frame ⟨frame h, false, false⟩ 0) == .badFraming &&
      windowOutcome request (.frame ⟨[h, 3, 9, crc8 [h, 3, 9] + 1], false, false⟩ 0) == .badCheck) = true := by
  decide +kernel

/-- Receptions in a row window that break off, are too short, have a length field above 12 or a byte too many; the last is whole. -/
theorem test_faulty_receptions :
    let outcome := fun (bytes : List Byte) (broken : Bool) =>
      windowOutcome ⟨.query, 3, 9, [2]⟩ (.frame ⟨bytes, broken, false⟩ 0)
    let good := (Frame.mk .reply 3 9 []).bytes
    outcome good true = .badFraming ∧ outcome (good.take 3) false = .badFraming ∧ outcome [] true = .badFraming ∧
    outcome (0x3D :: good.drop 1) false = .badFraming ∧ outcome (good ++ [0]) false = .badFraming ∧
    outcome good false = .clean [] := by decide +kernel

/-- A frame with 12 payload bytes and one whose form takes the longest further payload. -/
theorem test_longest_frames_are_commands :
    trunkCommand 3 0 ⟨(Frame.mk .setLevel 3 127 (bytes16 65535 ++ 255 :: List.replicate 9 7)).bytes, false, true⟩ =
      .setLevelBroadcast 0 .own 65535 255 (List.replicate 9 7) ∧
    trunkCommand 3 0 ⟨(Frame.mk .deviceConfig 255 79 (List.replicate 12 2)).bytes, false, false⟩ =
      .deviceConfig 0 .all (.group 15) 2 (List.replicate 11 2) ∧
    trunkCommand 3 0 ⟨(Frame.mk .query 3 63 (8 :: List.replicate 11 1)).bytes, false, false⟩ =
      .queryLightReading 0 63 (List.replicate 11 1) ∧
    trunkCommand 3 0 ⟨(Frame.mk .deviceConfig 3 0 [0]).bytes, false, false⟩ = .deviceConfig 0 .own (.unit 0) 0 [] ∧
    trunkCommand 3 0 ⟨(Frame.mk .deviceConfig 3 64 [1, 255, 1]).bytes, false, false⟩ =
      .deviceConfigSetGroups 0 .own (.group 0) 0xFF01 [] ∧
    trunkCommand 3 0 ⟨(Frame.mk .deviceConfig 255 127 [1, 0, 1, 9]).bytes, false, false⟩ =
      .deviceConfigSetGroups 0 .all .all 1 [9] := by
  decide +kernel

/-- MANAGE frames are their rows. -/
theorem test_manage_frames_are_commands :
    trunkCommand 3 0 ⟨(Frame.mk .manage 3 126 [2, 9, 1, 63, 1, 255, 250]).bytes, false, false⟩ =
      .writeRowMapEntry 0 ⟨.own, 9⟩ 63 0x01FFFA ∧
    trunkCommand 3 0 ⟨(Frame.mk .manage 255 126 [3, 9, 0, 0x96, 0, 1, 0, 2]).bytes, false, false⟩ =
      .loadCoefficients 0 ⟨.all, 9⟩ 0 0x96 [1, 2] ∧
    trunkCommand 3 0 ⟨(Frame.mk .manage 3 126 [9, 9]).bytes, false, false⟩ = .unknownOperation 0 ⟨.own, 9⟩ 9 ∧
    trunkCommand 3 0 ⟨(Frame.mk .manage 3 126 [0, 9, 1]).bytes, false, false⟩ = .unknownOperation 0 ⟨.own, 9⟩ 0 := by
  decide +kernel

/-- Each operation with the shortest and the longest payload of its row, and the codes beside its own. -/
theorem test_manage_operations_are_rows :
    let command := fun p : List Byte => trunkCommand 3 0 ⟨(Frame.mk .manage 3 126 p).bytes, false, false⟩
    command [1, 9, 10, 63, 1] = .readEntryPart1 0 ⟨.own, 9⟩ 10 63 ∧
    command [1, 9, 10, 63, 2, 0, 0, 0, 0, 0, 0, 0] = .readEntryPart0 0 ⟨.own, 9⟩ 10 63 2 ∧
    command [2, 9, 2, 15, 1, 2, 3, 4, 5, 6, 7, 8] = .writeZoneConfig 0 ⟨.own, 9⟩ 15 0x0102030405060708 ∧
    command [2, 9, 3, 7, 1, 2, 3] = .writeChannelConfig 0 ⟨.own, 9⟩ 7 0x010203 ∧
    command [2, 9, 5, 15, 1, 2, 3, 4, 5, 6, 7, 8] = .writeTrunkGroupMap 0 ⟨.own, 9⟩ 15 0x0102030405060708 ∧
    command [2, 9, 6, 10, 7, 1] = .writeEventRoute 0 ⟨.own, 9⟩ 10 0x0701 ∧
    command [2, 9, 7, 0, 1, 2, 3, 4, 5, 6, 7, 8] = .writeSettings 0 ⟨.own, 9⟩ 0 0x0102030405060708 ∧
    command [2, 9, 4, 15] = .writeEntryReadOnly 0 ⟨.own, 9⟩ 4 15 ∧
    command [2, 9, 0, 15] = .writeEntryReadOnly 0 ⟨.own, 9⟩ 0 15 ∧
    command [3, 9, 15, 0xB4, 0, 1, 0, 2, 0, 3, 15, 255] = .loadCoefficients 0 ⟨.own, 9⟩ 15 0xB4 [1, 2, 3, 4095] ∧
    command [4, 9, 255, 2] = .setZoneModeHold 0 ⟨.own, 9⟩ 255 2 ∧
    command [4, 9, 255, 3] = .setZoneModeManual 0 ⟨.own, 9⟩ 255 3 ∧
    command [4, 9, 255, 1] = .setZoneModeTrack 0 ⟨.own, 9⟩ 255 1 ∧
    command [4, 9, 255, 4] = .setZoneModeTrack 0 ⟨.own, 9⟩ 255 4 ∧
    command [5, 9] = .triggerScan 0 ⟨.own, 9⟩ ∧ command [6, 9] = .commit 0 ⟨.own, 9⟩ ∧
    command [7, 9] = .restart 0 ⟨.own, 9⟩ ∧ command [8, 9, 1] = .readStatusPart1 0 ⟨.own, 9⟩ ∧
    command [8, 9, 0] = .readStatusPart0 0 ⟨.own, 9⟩ 0 := by decide +kernel

/-- In-range entries at the ends of their ranges are read as what they are written as. -/
theorem test_entries_round_trip :
    (RowConfig.mk .sensor none 250).inRange = true ∧
    parseRow (BitVec.ofNat 24 (bytesValue (rowBytes ⟨.sensor, none, 250⟩))) = some ⟨.sensor, none, 250⟩ ∧
    (ZoneConfig.mk true 2000 1000 1 100 true 3600 15).inRange = true ∧
    parseZone (BitVec.ofNat 64 (bytesValue (zoneBytes ⟨true, 2000, 1000, 1, 100, true, 3600, 15⟩))) =
      some ⟨true, 2000, 1000, 1, 100, true, 3600, 15⟩ ∧
    (ChannelConfig.mk (some 63) 4095).inRange = true ∧
    parseChannel (BitVec.ofNat 24 (bytesValue (channelBytes ⟨some 63, 4095⟩))) = some ⟨some 63, 4095⟩ ∧
    (Route.mk 7 true).inRange = true ∧
    parseRoute (BitVec.ofNat 16 (bytesValue (routeBytes ⟨7, true⟩))) = some ⟨7, true⟩ ∧
    (Settings.mk 7 7 .continuous 60000 (some 7) 1000 15 15 60000).inRange = true ∧
    parseSettings (BitVec.ofNat 64 (bytesValue (settingsBytes ⟨7, 7, .continuous, 60000, some 7, 1000, 15, 15, 60000⟩))) =
      some ⟨7, 7, .continuous, 60000, some 7, 1000, 15, 15, 60000⟩ := by decide +kernel

/-- Written entries of tables 1, 3 and 6 at the ends of their ranges and one past them. -/
theorem test_short_entries_out_of_range :
    ([0x030000 + 10, 0x01100A, 0x01FE0A, 0x010000, 0x0100FB].all fun n => (parseRow (BitVec.ofNat 24 n)).isNone) = true ∧
    ([0x020F01, 0x01FFFA, 0x000001].all fun n => (parseRow (BitVec.ofNat 24 n)).isSome) = true ∧
    ([0x400000, 0xFE0000, 0x001000].all fun n => (parseChannel (BitVec.ofNat 24 n)).isNone) = true ∧
    ([0x3F0FFF, 0xFF0000].all fun n => (parseChannel (BitVec.ofNat 24 n)).isSome) = true ∧
    ([0x0800, 0x0002].all fun n => (parseRoute (BitVec.ofNat 16 n)).isNone) = true ∧
    parseRoute 0x0701 = some ⟨7, true⟩ := by decide +kernel

/-- Written zone entries and settings records with one field past its range; the bits that the zone layout does not name are ignored. -/
theorem test_long_entries_out_of_range :
    let zone := fun (z : ZoneConfig) => parseZone (BitVec.ofNat 64 (bytesValue (zoneBytes z)))
    let z : ZoneConfig := ⟨true, 500, 400, 30, 15, true, 600, 5⟩
    ([{ z with target := 2001 }, { z with slewUp := 0 }, { z with slewUp := 1001 }, { z with slewDown := 0 },
      { z with slewDown := 1001 }, { z with deadBand := 101 }, { z with offDwell := 3601 }].all fun z =>
        (zone z).isNone) = true ∧
    parseZone (BitVec.ofNat 64 (bytesValue (zoneBytes z)) ||| 0x3000000000000000) = some z ∧
    let good : Nat := 0x0733_A5_07D0_03E8_0A
    (parseSettings (BitVec.ofNat 64 good)).isSome = true ∧
    ([0x0833_A5_07D0_03E8_0A, 0x8833_A5_07D0_03E8_0A, 0x7633_A5_07D0_03E8_0A, 0x0703_A5_07D0_03E8_0A,
      0x0730_A5_07D0_03E8_0A, 0x0733_E5_07D0_03E8_0A, 0x0733_A8_07D0_03E8_0A, 0x0733_AE_07D0_03E8_0A,
      0x0733_85_07D0_03E8_31, 0x0733_B5_07D0_03E8_E9, 0x0733_A5_00F9_03E8_0A, 0x0733_A5_EA61_03E8_0A,
      0x0733_A5_07D0_00C7_0A, 0x0733_A5_07D0_EA61_0A].all fun n => (parseSettings (BitVec.ofNat 64 n)).isNone) = true := by
  decide +kernel

/-! ## The trunk port -/

theorem test_trunk_errors_count :
    (after (.trunkFrameError 0 ⟨[0x10], true, false⟩) demo).counters.trunkFraming = 1 ∧
    (after (.trunkFrameError 0 ⟨[0x10, 0, 5, 1], false, false⟩) { demo with counters := ⟨0, 255, 0, 0, 0, 0, 0⟩ }).counters.trunkCheck = 255 ∧
    (after (.trunkFrameIgnored 5 ⟨[0x13, 1, 0], true, false⟩) demo).trunkIdle = some 100000005 ∧
    (after (.trunkFrameDiscarded 5 ⟨[], false, false⟩) demo).counters = .zero := by decide +kernel

/-- An answer starts at 4 ms and not before; activity before that abandons it and is counted. -/
theorem test_answer_starts_at_4_ms :
    (after (.trunkAnswerStart 4000)
      { demo with answer := some ⟨⟨.reply, 0, 1, []⟩, 100000000⟩ }).trunkTx = .answering ⟨.reply, 0, 1, []⟩ 100004000 ∧
    (after (.trunkAnswerStart 3999)
      { demo with answer := some ⟨⟨.reply, 0, 1, []⟩, 100000000⟩ }).trunkTx = .idle ∧
    (after (.trunkLineActivity 3999)
      { demo with answer := some ⟨⟨.reply, 0, 1, []⟩, 100000000⟩ }).counters.arbitration = 1 ∧
    (after (.trunkLineActivity 3999) demo).trunkIdle = none := by decide +kernel

/-- The queue's head starts at its qualification time and not before. -/
theorem test_head_starts_when_qualified :
    (after (.trunkTransmitStart 0) { demo with upstream := queued, trunkIdle := some 99973000 }).trunkTx =
      .sending ⟨.deferredReply, 0, 20, [4, 0, 0, 1]⟩ 100000000 false ∧
    (after (.trunkTransmitStart 0) { demo with upstream := queued, trunkIdle := some 99973001 }).trunkTx = .idle ∧
    (after (.trunkTransmitStart 0) { demo with upstream := queued, trunkIdle := none }).trunkTx = .idle ∧
    after (.trunkTransmitStart 0) demo = passTime 0 demo := by decide +kernel

/-- A frame sent to its end leaves the queue and frees its tag; one lost to arbitration stays. -/
theorem test_transmission_ends :
    (after (.trunkFrameSent 0)
      { demo with
        upstream := [⟨.deferred ⟨4, .answered, false, [1], 20⟩, true, false⟩], tagsInUse := [4]
        trunkTx := .sending ⟨.deferredReply, 0, 20, [4, 0, 0, 1]⟩ (100000000 - 67 * 208) false }).tagsInUse = [] ∧
    (after (.trunkFrameSent 0)
      { demo with
        upstream := [⟨.deferred ⟨4, .answered, false, [1], 20⟩, true, false⟩], tagsInUse := [4]
        trunkTx := .sending ⟨.deferredReply, 0, 20, [4, 0, 0, 1]⟩ (100000001 - 67 * 208) false }).tagsInUse = [4] ∧
    (after (.trunkFrameSent 0)
      { demo with trunkTx := .answering ⟨.reply, 0, 1, []⟩ (100000000 - 35 * 208), restart := .afterAnswer }).restart = .due ∧
    after (.trunkFrameSent 0) demo = passTime 0 demo := by decide +kernel

theorem test_arbitration_loss_keeps_the_entry :
    (after (.arbitrationLoss 0 true)
      { demo with
        upstream := [⟨.notice ⟨.rowPowerLost, 5, 7⟩, true, true⟩]
        trunkTx := .sending ⟨.notice, 0, 126, []⟩ 99999000 false }).upstream =
      [⟨.notice ⟨.rowPowerLost, 5, 7⟩, false, false⟩] ∧
    (after (.arbitrationLoss 0 false)
      { demo with trunkTx := .answering ⟨.reply, 0, 1, []⟩ 99999000 }).trunkIdle = none ∧
    after (.arbitrationLoss 0 true) demo = passTime 0 demo := by decide +kernel

/-- Queues of 8 frames, with and without a notice that may be displaced. -/
def fullQueue (sending : Bool) : List UpEntry :=
  List.replicate 7 ⟨.deferred ⟨4, .answered, false, [1], 20⟩, false, false⟩ ++
    [⟨.notice ⟨.rowPowerLost, 5, 7⟩, sending, false⟩]

/-- A deferred reply finds a place, displaces the lowest notice, or displaces the one being sent. -/
theorem test_offer_deferred :
    (State.UpstreamOk { demo with upstream := queued }) ∧
    (offerDeferred ⟨5, .timeout, false, [], 20⟩ { demo with upstream := queued }).upstream.map UpEntry.rank = [8, 8, 7, 4] ∧
    (State.UpstreamOk { demo with upstream := fullQueue false }) ∧
    (offerDeferred ⟨5, .timeout, false, [], 20⟩ { demo with upstream := fullQueue false }).noticesLost = true ∧
    (State.UpstreamOk { demo with upstream := fullQueue true }) ∧
    (offerDeferred ⟨5, .timeout, false, [], 20⟩ { demo with upstream := fullQueue true }).upstream.length = 8 := by
  refine ⟨test_invariants_upstream, by decide +kernel, ?_, by decide +kernel, ?_, by decide +kernel⟩ <;>
    simp [State.UpstreamOk, fullQueue, UpEntry.rank, List.replicate]

/-- The notice being transmitted with its flag set is displaced and then sent: the marker stays set (log entry 35). -/
theorem test_displaced_while_sending :
    let s := offerDeferred ⟨5, .timeout, false, [], 20⟩ { demo with
      upstream := fullQueue true, noticesLost := true
      trunkTx := .sending ⟨.notice, 0, 126, [8, 8, 0, 0, 0, 0, 5]⟩ 90000000 true }
    s.upstream.all (fun e => !e.isNotice) = true ∧ (after (.trunkFrameSent 0) s).noticesLost = true ∧
    (after (.trunkFrameSent 0) s).upstream = s.upstream := by decide +kernel

/-- A notice merges, takes a free place, displaces a lower one, or is dropped; also with every notice being sent. -/
theorem test_offer_notice :
    (offerNotice ⟨.rowPowerLost, 9, 7⟩ { demo with upstream := queued }).upstream[1]? =
      some ⟨.notice ⟨.rowPowerLost, 9, 7⟩, false, false⟩ ∧
    (offerNotice ⟨.luminaireFault 3 .mismatch 8, 9, 1⟩ { demo with upstream := queued }).upstream[2]? =
      some ⟨.notice ⟨.luminaireFault 3 .mismatch 8, 9, 4⟩, true, true⟩ ∧
    (offerNotice ⟨.rowPowerRestored, 9, 5⟩ { demo with upstream := queued }).upstream.map UpEntry.rank = [8, 7, 5, 4] ∧
    (offerNotice ⟨.rowPowerRestored, 9, 7⟩ { demo with upstream := fullQueue false }).noticesLost = true ∧
    (offerNotice ⟨.rowPowerRestored, 9, 7⟩
      { demo with upstream := [⟨.notice ⟨.luminaireFault 1 .miss 0, 5, 4⟩, false, false⟩,
        ⟨.notice ⟨.luminaireFault 2 .miss 0, 5, 4⟩, false, false⟩, ⟨.notice ⟨.luminaireFault 3 .miss 0, 5, 4⟩, false, false⟩,
        ⟨.notice ⟨.luminaireFault 4 .miss 0, 5, 4⟩, false, false⟩] }).upstream.map UpEntry.rank = [7, 4, 4, 4] ∧
    (offerNotice ⟨.rowPowerRestored, 9, 7⟩ { demo with upstream := fullQueue true }).upstream = fullQueue true := by
  decide +kernel

/-! ## Outputs, passes and channels -/

/-- The demo zone at ratio `r`, at 0 since `t` ms. -/
def zoneAt (mode : ZoneMode) (r : Nat) (t : Option Clock) : State :=
  { demo with zones := demo.zones.set 0 ⟨mode, r, 0, ⟨99000, false⟩, t.map fun c => ⟨c, false⟩, false, false⟩ }

/-- Every case of the output rule, the off dwell at its end and one millisecond before it. -/
theorem test_output_cases :
    demo.outputFor 3 777 = 777 ∧ (zoneAt .unbound 300 none).outputFor 0 777 = 777 ∧ demo.outputFor 0 0 = 0 ∧
    ({ zoneAt .track 0 (some 0) with clock := 600000 }).outputFor 0 777 = 0 ∧
    ({ zoneAt .track 0 (some 0) with clock := 599999 }).outputFor 0 777 = 10 ∧
    (zoneAt .track 0 none).outputFor 0 777 = 10 ∧
    (zoneAt .track 1 none).outputFor 0 777 = 10 ∧ (zoneAt .track 999 none).outputFor 0 1000 = 999 := by
  decide +kernel

/-- Channel 0 with this health and reading; channel 1 is the sky channel, FRESH at 777. -/
def channelsAt (health : ChannelHealth) (reading : Nat) : State :=
  { demo with
    tables := { demoTables with settings := { demoTables.settings with sky := some 1 } }
    channels := (demo.channels.set 0 ⟨reading, health, 0, 0, ⟨99000, false⟩⟩).set 1 ⟨777, .fresh, 0, 0, ⟨99000, false⟩⟩ }

/-- A channel is used directly, by substitution, or not at all. -/
theorem test_channel_values :
    channelValue (channelsAt .fresh 5) 0 = some 5 ∧ channelValue (channelsAt .suspect 5) 0 = some 5 ∧
    usableDirectly (channelsAt .stale 5) 0 = false ∧ inScanRange (channelsAt .stale 5) 0 = true ∧
    channelValue (channelsAt .stale 5) 0 = some 777 ∧ channelValue (channelsAt .unseen 5) 0 = none ∧
    substitute 1024 777 < 20000 := by decide +kernel

/-- A pass: tracking down by one second's step, blind, held and in MANUAL; R below, at and above what is wanted. -/
theorem test_pass_moves_the_ratio :
    ((computePass (channelsAt .fresh 250)).zone 0) = ⟨.track, 970, 250, ⟨100000, false⟩, none, false, false⟩ ∧
    ((computePass (channelsAt .unseen 250)).zone 0).mode = .failsafe ∧
    ((computePass { channelsAt .unseen 0 with zones := (zoneAt .failsafe 900 none).zones }).zone 0).ratio = 1000 ∧
    ((computePass (zoneAt .hold 0 (some 5))).zone 0).zeroSince = some ⟨5, false⟩ ∧
    ((computePass (zoneAt .manual 1000 none)).zone 0).mode = .manual ∧
    ((computePass (channelsAt .fresh 250)).lum 0).output = 970 ∧
    ((computePass (channelsAt .fresh 250)).lum 3) = syncedLum := by decide +kernel

/-- Within one second a TRACK zone rises by 400 toward 1000, or to it, falls by 30, and stands within the dead band; a FAILSAFE zone rises by 400. -/
theorem test_slew_by_one_step :
    let ratio := fun (mode : ZoneMode) (health : ChannelHealth) (reading r : Nat) =>
      ((computePass { channelsAt health reading with zones := (zoneAt mode r none).zones }).zone 0).ratio
    ratio .track .fresh 0 100 = 500 ∧ ratio .track .fresh 0 990 = 1000 ∧ ratio .track .fresh 500 20 = 0 ∧
    ratio .track .fresh 500 100 = 70 ∧ ratio .track .fresh 250 515 = 515 ∧ ratio .track .fresh 250 516 = 500 ∧
    ratio .failsafe .unseen 0 100 = 500 := by decide +kernel

/-- A pass of two zones that go blind and one that sees again raises the events in zone order, and a route with rescan sets rescan pending in SCANNING. -/
theorem test_pass_events :
    let zones := ((zoneAt .track 600 none).zones.set 1 ⟨.failsafe, 900, 0, ⟨99000, false⟩, none, true, false⟩).set 2
      ⟨.track, 700, 5, ⟨99000, false⟩, none, false, false⟩
    let s := { channelsAt .unseen 250 with
      zones := zones, scan := { demo.scan with state := .scanning }
      tables := { (channelsAt .unseen 250).tables with
        coeffs := (demoTables.coeffs.set 1 ((Vector.replicate 8 0).set 1 1024)).set 2 ((Vector.replicate 8 0).set 2 1)
        routes := defaultTables.routes.set 4 ⟨6, true⟩ } }
    (computePass s).upstream.map (fun e => e.item) =
      [.notice ⟨.zoneFailsafeEntered 0 1000 0, 100000, 6⟩, .notice ⟨.zoneFailsafeEntered 2 1000 5, 100000, 6⟩,
       .notice ⟨.zoneFailsafeLeft 1 870 777, 100000, 4⟩] ∧
    (computePass s).scan.pendingUrgent = true ∧
    (computePass { s with scan := { demo.scan with state := .stopping } }).scan.pending = false := by decide +kernel

/-- Worked case 1 of 04: D = 270, R falls from 700 to 640, and the members of B 800 and 1000 are at 512 and 640. -/
theorem test_trim_case_1 :
    let s := computePass
      { zoneAt .track 700 none with
        tables := { demoTables with
          coeffs := defaultTables.coeffs.set 0 (((Vector.replicate 8 0).set 0 512).set 1 307) }
        lums := demo.lums.set 0 { syncedLum with base := 800 }
        channels := (demo.channels.set 0 ⟨300, .fresh, 0, 0, .zero⟩).set 1 ⟨400, .fresh, 0, 0, .zero⟩
        clock := 101000 }
    s.zone 0 = ⟨.track, 640, 270, ⟨101000, false⟩, none, false, false⟩ ∧
    (s.lum 0).output = 512 ∧ (s.lum 1).output = 640 := by decide +kernel

/-- Worked case 4 of 04: a channel used by substitution, D = 1300, R falls to 0 and zero-since is set; the members stay at P_min. -/
theorem test_trim_case_4 :
    let s := computePass
      { zoneAt .track 45 none with
        tables := { demoTables with
          zones := demoTables.zones.set 0 ⟨true, 800, 400, 30, 15, true, 600, 5⟩
          channels := demoTables.channels.set 5 ⟨none, 128⟩
          settings := { demoTables.settings with sky := some 0 }
          coeffs := defaultTables.coeffs.set 0 (((Vector.replicate 8 0).set 5 1024).set 6 512) }
        channels := ((demo.channels.set 0 ⟨8000, .fresh, 0, 0, .zero⟩).set 5 ⟨1, .stale, 3, 0, .zero⟩).set 6
          ⟨600, .fresh, 0, 0, .zero⟩
        clock := 101000 }
    s.zone 0 = ⟨.track, 0, 1300, ⟨101000, false⟩, some ⟨101000, false⟩, false, true⟩ ∧
    (s.lum 0).output = 10 := by decide +kernel

/-- The slew within the dead band, above it, and one step past it. -/
theorem test_dead_band :
    deadBanded 15 985 1000 = 1000 ∧ slew ⟨true, 500, 400, 30, 15, false, 600, 5⟩ 1000 0 (deadBanded 15 16 0) = 16 ∧
    slew ⟨true, 500, 400, 30, 15, false, 600, 5⟩ 1000 0 (deadBanded 15 15 0) = 0 := by decide

/-- Replies of each class for a channel, and the ladder's steps at its limits. -/
theorem test_channel_ladder :
    channelOutcome (.clean [255, 255, 2]) = .clean 20000 ∧ channelOutcome (.clean [0, 9, 1]) = .miss ∧
    channelOutcome (.noisy [0, 9, 0]) = .noisy 9 ∧
    channelAfter demo (.clean 9) ⟨0, .stale, 15, 2, .zero⟩ = ⟨9, .fresh, 0, 0, ⟨100000, false⟩⟩ ∧
    channelAfter demo (.clean 9) ⟨0, .stale, 15, 1, .zero⟩ = ⟨9, .stale, 15, 2, ⟨100000, false⟩⟩ ∧
    channelAfter demo .miss ⟨0, .fresh, 1, 0, .zero⟩ = ⟨0, .suspect, 2, 0, .zero⟩ ∧
    channelAfter demo .miss ⟨0, .suspect, 2, 1, .zero⟩ = ⟨0, .stale, 3, 0, .zero⟩ ∧
    channelAfter demo .miss ⟨0, .stale, 15, 2, .zero⟩ = ⟨0, .stale, 15, 0, .zero⟩ ∧
    channelAfter demo .miss ⟨0, .unseen, 0, 0, .zero⟩ = ⟨0, .unseen, 1, 0, .zero⟩ ∧
    channelAfter demo (.clean 9) ⟨0, .unseen, 1, 0, .zero⟩ = ⟨9, .fresh, 0, 0, ⟨100000, false⟩⟩ ∧
    channelAfter demo (.clean 9) ⟨0, .suspect, 1, 0, .zero⟩ = ⟨9, .fresh, 0, 0, ⟨100000, false⟩⟩ := by decide +kernel

/-- A change of 250 permille of the reading is a transient and one of 249 is not. -/
theorem test_sky_transient :
    transientOf (channelsAt .fresh 5) 1 ⟨1000, .fresh, 0, 0, .zero⟩ 1250 = some (.skyTransient 1 1000 1250) ∧
    transientOf (channelsAt .fresh 5) 1 ⟨1000, .fresh, 0, 0, .zero⟩ 1249 = none ∧
    transientOf (channelsAt .fresh 5) 1 ⟨1000, .stale, 0, 0, .zero⟩ 5000 = none := by decide +kernel

/-- A scan query's outcome: the next channel is offered, or the pass runs. -/
theorem test_scan_query_outcome :
    windowCloses scanning ⟨⟨.query, 0, 9, [8]⟩, .scan 0, 99961000⟩ .silence = true ∧
    (after (.scanQueryOutcome 0 (heard ⟨.reply, 0, 9, [0, 250, 0]⟩)) scanning).zone 0 =
      ⟨.track, 970, 250, ⟨100000, false⟩, none, false, false⟩ ∧
    (after (.scanQueryOutcome 0 .silence)
      { scanning with tables := { demoTables with channels := demoTables.channels.set 7 ⟨some 9, 0⟩ } }).scan.next = some 7 := by
  decide +kernel

/-- The outcome in STOPPING with and without a pending rescan, and one that brings SENSOR STALE, SENSOR RECOVERED or SKY TRANSIENT. -/
theorem test_scan_query_outcome_stopping_and_events :
    let stopping := { scanning with scan := { scanning.scan with state := .stopping } }
    let with0 := fun v => { scanning with channels := scanning.channels.set 0 v }
    let reply := heard ⟨.reply, 0, 9, [0, 250, 0]⟩
    (after (.scanQueryOutcome 0 reply) stopping).scan.state = .idle ∧
    (after (.scanQueryOutcome 0 reply) stopping).zones = demo.zones ∧
    (after (.scanQueryOutcome 0 reply) stopping).channel 0 = ⟨250, .fresh, 0, 0, ⟨100000, false⟩⟩ ∧
    (after (.scanQueryOutcome 0 reply) { stopping with scan := { stopping.scan with pending := true } }).scan.next = some 0 ∧
    (after (.scanQueryOutcome 0 .silence) (with0 ⟨5, .suspect, 2, 0, .zero⟩)).upstream.map (fun e => e.item) =
      [.notice ⟨.zoneFailsafeEntered 0 1000 0, 100000, 6⟩, .notice ⟨.sensorStale 0 (some 9), 100000, 3⟩] ∧
    (after (.scanQueryOutcome 0 reply) (with0 ⟨5, .stale, 15, 2, .zero⟩)).upstream.map (fun e => e.item) =
      [.notice ⟨.sensorRecovered 0 (some 9), 100000, 2⟩] ∧
    (after (.scanQueryOutcome 0 reply)
      { with0 ⟨500, .fresh, 0, 0, .zero⟩ with
        tables := { demoTables with
          settings := { demoTables.settings with sky := some 0 }
          routes := defaultTables.routes.set 3 ⟨1, true⟩ } }).upstream.map (fun e => e.item) =
      [.notice ⟨.skyTransient 0 500 250, 100000, 1⟩] := by decide +kernel

/-! ## The shadow rules -/

theorem test_update_in_synced :
    (demo.lum 0).shadow = .synced ∧ (demo.lum 0).sent = (demo.lum 0).output ∧
    outputUpdate 0 1000 true 3 demo = demo ∧ (outputUpdate 0 999 true 3 demo).pendingList = [0] := by decide +kernel

/-- In PENDING: no effect, withdrawn, urgent, and a fade that an urgent entry keeps. -/
theorem test_update_outside_synced :
    (waiting.lum 0).shadow = .pending ∧ outputUpdate 0 500 false 7 waiting = waiting ∧
    (outputUpdate 0 1000 false 7 waiting).pendingList = [1, 2] ∧
    ((outputUpdate 0 400 false 7 waiting).lum 0).emissionFade = 2 ∧
    ((outputUpdate 0 400 true 7 waiting).lum 0).emissionFade = 7 ∧
    (emitting.lum 0).shadow = .inFlight ∧ ((outputUpdate 0 400 false 7 emitting).lum 0).emissionFade = 7 ∧
    ((outputUpdate 0 400 true 7 emitting).lum 0).urgent = true ∧
    (repeater.lum 0).shadow = .unknown ∧ ((outputUpdate 0 400 true 7 repeater).lum 0).output = 400 := by decide +kernel

/-! ## Level commands, device configuration and queries -/

/-- Absorbed by one, by a group and by all; saturated; forwarded as received. -/
theorem test_set_level_absorbed :
    (after (.setLevelUnit 0 .own 0 65535 255 []) demo).lum 0 = { syncedLum with baseFade := 15 } ∧
    (after (.setLevelUnit 0 .all 3 300 15 []) demo).pendingList = [3] ∧
    (after (.setLevelGroup 0 .own 0 300 2 []) demo).pendingList = [0, 1] ∧
    (after (.setLevelBroadcast 0 .own 0 2 []) demo).pendingList = [0, 1, 2, 3, 63] := by decide +kernel

theorem test_set_level_forwarded :
    demo.isLum 4 = false ∧ repeater.harvesting = false ∧
    (after (.setLevelUnit 0 .all 4 65535 255 [1]) demo).forward =
      [⟨⟨.setLevel, 0, 4, [255, 255, 255, 1]⟩, none, false, 4, none⟩] ∧
    (after (.setLevelGroup 0 .own 15 300 2 []) repeater).forward =
      [⟨⟨.setLevel, 0, 79, [1, 44, 2]⟩, none, false, 79, none⟩] ∧
    (after (.setLevelBroadcast 0 .own 300 2 [])
      { repeater with forward := List.replicate 4 (fwdQuery none false none) }).counters.forwardDrops = 1 := by decide +kernel

/-- SET GROUPS is answered OWNED, discarded, deferred or forwarded; another sub-kind is deferred. -/
theorem test_device_config :
    (after (.deviceConfigSetGroups 0 .own (.unit 0) 1 []) demo).answer = some ⟨⟨.response, 0, 0, [6]⟩, 100000000⟩ ∧
    (after (.deviceConfigSetGroups 0 .all (.unit 0) 1 []) demo).answer = none ∧
    (after (.deviceConfigSetGroups 0 .own (.group 0) 1 []) demo).forward = [] ∧
    (after (.deviceConfigSetGroups 0 .own .all 1 []) repeater).forward.length = 1 ∧
    (after (.deviceConfigSetGroups 0 .own (.unit 4) 1 []) demo).tagsInUse = [0] ∧
    (after (.deviceConfig 0 .own (.unit 0) 2 []) demo).answer = some ⟨⟨.response, 0, 0, [2, 0]⟩, 100000000⟩ ∧
    (after (.deviceConfig 0 .all (.unit 0) 2 []) demo).tagsInUse = [] ∧
    (after (.deviceConfig 0 .own (.group 15) 0 []) demo).forward.length = 1 := by decide +kernel

/-- TARGET LEVEL by shadow state and health; LIGHT READING from a FRESH channel, with an age of 25.5 s and more. -/
theorem test_queries :
    (after (.queryTargetLevel 0 0 []) demo).answer = some ⟨⟨.reply, 0, 0, [3, 232, 1]⟩, 100000000⟩ ∧
    (after (.queryTargetLevel 0 0 []) waiting).answer = some ⟨⟨.reply, 0, 0, [1, 244, 3]⟩, 100000000⟩ ∧
    (after (.queryTargetLevel 0 0 []) emitting).answer = some ⟨⟨.reply, 0, 0, [1, 244, 3]⟩, 100000000⟩ ∧
    (after (.queryTargetLevel 0 4 []) demo).tagsInUse = [0] ∧
    (after (.queryLightReading 0 9 [])
      { demo with channels := demo.channels.set 0 ⟨250, .fresh, 0, 0, ⟨0, false⟩⟩ }).answer =
      some ⟨⟨.reply, 0, 9, [0, 250, 0, 255, 1]⟩, 100000000⟩ ∧
    (after (.queryLightReading 0 9 []) demo).tagsInUse = [0] ∧
    (after (.queryOtherItem 0 0 7 [3]) { demo with lastTag := 14, tagsInUse := [15, 0] }).lastTag = 1 ∧
    (after (.queryOtherItem 0 0 7 [3]) { demo with tagsInUse := [0, 1, 2, 3, 4, 5, 6, 7] }).answer =
      some ⟨⟨.response, 0, 0, [3]⟩, 100000000⟩ := by decide +kernel

/-- At 500 ms an entry that waits leaves; at 499 ms it stays; one on the row stays; without power the outcome is NO POWER. -/
theorem test_deferral_deadline :
    ((after (.deferralDeadline 0 3) { demo with forward := [fwdQuery none false none, fwdQuery (some 3) false (some 100000)] }).upstream) =
      [⟨.deferred ⟨3, .timeout, false, [], 20⟩, false, false⟩] ∧
    ((after (.deferralDeadline 0 3) { demo with forward := [fwdQuery (some 3) false (some 100001)] }).forward.length) = 1 ∧
    ((after (.deferralDeadline 0 3) { demo with forward := [fwdQuery (some 3) true (some 100000)] }).forward.length) = 1 ∧
    ((after (.deferralDeadline 0 3)
      { demo with
        power := ⟨false, false, 0⟩, rowTx := .powerless, forward := [fwdQuery (some 3) false (some 100000)] }).upstream) =
      [⟨.deferred ⟨3, .noPower, false, [], 20⟩, false, false⟩] := by decide +kernel

/-! ## The row arbiter and the row port -/

/-- A scan whose first query is offered, with a waiting forward entry or none. -/
def offered (urgent : Bool) (last : Option ChannelId) (fwd : List FwdEntry) (s : State) : State :=
  { s with
    forward := fwd
    scan := { s.scan with state := .scanning, next := some 0, lastQueried := last, urgent := urgent } }

/-- Levels 500 wait without urgency. -/
def calm : State :=
  { waiting with lums := ((demo.lums.set 0 { pendingLum with urgent := false }).set 1
      { pendingLum with urgent := false }).set 2 { pendingLum with urgent := false } }

/-- Entry 3 is not aligned. -/
def unaligned : State := { demo with lums := demo.lums.set 3 { syncedLum with aligned := false } }

/-- The verify interval has just run out, or has one millisecond to go. -/
def verifyDue (t : Clock) : State := { demo with verify := { demo.verify with last := ⟨t, false⟩ } }

/-- Every rank of the choice. -/
theorem test_arbiter_ranks :
    chosen demo = none ∧
    chosen { offered false (some 0) [] waiting with starvation := 6 } = some .c ∧
    chosen { offered false (some 0) [] waiting with starvation := 5 } = some .a ∧
    chosen (offered true none [fwdQuery none false none] demo) = some .c ∧
    chosen (offered false (some 0) [fwdQuery none false none] demo) = some .b ∧
    chosen (offered false (some 0) [] calm) = some .c ∧
    chosen (offered false none [] calm) = some .d ∧
    chosen { offered false none [] unaligned with lowerTurn := true } = some .c ∧
    chosen (offered false none [] unaligned) = some .e ∧
    chosen (offered false none [] (verifyDue 99000)) = some .f ∧
    chosen (offered false none [] (verifyDue 99001)) = some .c := by decide +kernel

/-- When each class stands. -/
theorem test_candidates :
    stands waiting .a = true ∧ stands calm .d = true ∧ stands calm .a = false ∧
    stands relaying .b = false ∧ stands unaligned .e = true ∧ stands (verifyDue 99000) .f = true ∧
    stands { unaligned with verify := { unaligned.verify with alignFail := some ⟨99001, false⟩ } } .e = false ∧
    stands { unaligned with verify := { unaligned.verify with alignFail := some ⟨99000, false⟩ } } .e = true := by
  decide +kernel

/-- A zone frame from the oldest urgent entry, and a frame to the head alone when one member differs. -/
theorem test_level_frames :
    waiting.pendingList = [] ++ (1 : Addr) :: [0, 2] ∧ (waiting.lum 1).urgent = true ∧
    (takeLevel { waiting with rowTx := .ready }).rowTx =
      .onRow ⟨⟨.setLevel, 0, 64, [1, 244, 2]⟩, .level, 100000000⟩ ∧
    (takeLevel waiting).emission = some ⟨[0, 1, 2], 500⟩ ∧
    (takeLevel { waiting with lums := waiting.lums.set 2 { pendingLum with output := 499 } }).emission = some ⟨[1], 500⟩ ∧
    (takeLevel calm).emission = some ⟨[0, 1, 2], 500⟩ := by decide +kernel

/-- The frames of classes B, C, E and F. -/
theorem test_other_frames :
    ((takeForward { demo with forward := [⟨⟨.deviceConfig, 0, 127, [1, 0, 0]⟩, none, false, 127, none⟩] }).lum 3).aligned = false ∧
    (takeScan (offered false none [] demo)).rowTx = .onRow ⟨⟨.query, 0, 9, [8]⟩, .scan 0, 100000000⟩ ∧
    (takeAlignment { unaligned with verify := { unaligned.verify with alignPointer := 4 } }).rowTx =
      .onRow ⟨⟨.deviceConfig, 0, 3, [1, 0, 0]⟩, .alignment, 100000000⟩ ∧
    (takeVerify { verifyDue 0 with verify := { (verifyDue 0).verify with pointer := 63 } }).verify.probe = 1 ∧
    (takeVerify (verifyDue 0)).verify.record = some ⟨0, 1000⟩ := by decide +kernel

/-- READY after 4 ms of gap, and not with a stray on the line; a chosen class starts and is counted for starvation. -/
theorem test_row_gap :
    (after (.rowGapEnd 0) { demo with rowActivity := 99996000 }).rowTx = .ready ∧
    (after (.rowGapEnd 0) { demo with rowActivity := 99996001 }).rowTx = .gap ∧
    (after (.rowGapEnd 0) { demo with rowForeign := true }).rowTx = .gap ∧
    (after (.rowGapEnd 0) (offered false (some 0) [] waiting)).starvation = 1 ∧
    (after (.verifyIntervalExpiry 0) { verifyDue 99000 with rowTx := .ready }).verify.record = some ⟨0, 1000⟩ ∧
    (after (.alignmentHoldExpiry 0) { unaligned with rowTx := .ready }).verify.alignRecord = some ⟨3, none, false⟩ := by
  decide +kernel

/-- A level frame at its end and 1 us before it; an entry updated meanwhile goes back to the list. -/
theorem test_level_frame_complete :
    emitting.emission = some ⟨[0, 1, 2], 500⟩ ∧ ([0, 1, 2] : List Addr).Nodup ∧
    (after (.levelFrameComplete 0) { emitting with rowTx := .onRow ⟨⟨.setLevel, 0, 64, [1, 244, 2]⟩, .level, 100000001 - 59 * 208⟩ }).emission =
      some ⟨[0, 1, 2], 500⟩ ∧
    (after (.levelFrameComplete 0) emitting).emission = none ∧
    (after (.levelFrameComplete 0) (outputUpdate 1 400 false 2 emitting)).pendingList = [1] := by decide +kernel

/-- A forwarded frame without a window, an untagged one with one, and a tagged one answered or silent. -/
theorem test_forward_ends :
    (after (.forwardFrameComplete 0)
      { onRow ⟨.setLevel, 0, 127, [0, 0, 0]⟩ .forward demo with
        forward := [⟨⟨.setLevel, 0, 127, [0, 0, 0]⟩, none, true, 127, none⟩] }).forward = [] ∧
    (after (.untaggedWindowClose 0 .silence) { relaying with forward := [fwdQuery none true none] }).forward = [] ∧
    (after (.untaggedWindowClose 0 .silence) relaying).forward.length = 1 ∧
    (after (.deferredQueryOutcome 0 (heardNoisy ⟨.reply, 0, 20, List.replicate 12 5⟩)) relaying).upstream =
      [⟨.deferred ⟨0, .answered, true, List.replicate 9 5, 20⟩, false, false⟩] ∧
    (after (.deferredQueryOutcome 0 .silence) relaying).upstream =
      [⟨.deferred ⟨0, .noAnswer, false, [], 20⟩, false, false⟩] ∧
    (after (.deferredQueryOutcome 0 .silence)
      { relaying with rowTx := .onRow ⟨⟨.query, 0, 20, [0]⟩, .forward, 100000001 - 43 * 208 - 20000⟩ }).forward.length = 1 := by
  decide +kernel

/-- Window outcomes by kind, unit, length, noise and fault. -/
theorem test_window_outcomes :
    windowOutcome ⟨.query, 0, 9, [8]⟩ (heard ⟨.reply, 0, 9, [1, 2, 0]⟩) = .clean [1, 2, 0] ∧
    windowOutcome ⟨.query, 0, 9, [8]⟩ (heard ⟨.reply, 0, 9, [1, 2]⟩) = .badFraming ∧
    windowOutcome ⟨.query, 0, 9, [8]⟩ (heard ⟨.reply, 0, 8, [1, 2, 0]⟩) = .badFraming ∧
    windowOutcome ⟨.query, 0, 9, [8]⟩ (heard ⟨.notice, 0, 9, [1, 2, 0]⟩) = .badFraming ∧
    windowOutcome ⟨.query, 0, 9, [1]⟩ (heardNoisy ⟨.reply, 0, 9, [1, 2]⟩) = .noisy [1, 2] ∧
    checkFrame ⟨[0x30, 0, 9, 0], true, false⟩ = .framing ∧ checkFrame ⟨[0x30, 0, 9, 1], false, false⟩ = .check := by
  decide +kernel

/-- A stray begins and ends in READY, during a frame of the part, in an open window, and without power. -/
theorem test_strays :
    (after (.rowStrayFrame 0 false) { demo with rowTx := .ready }).rowTx = .gap ∧
    (after (.rowStrayFrame 0 true) demo).counters.rowFraming = 1 ∧
    (after (.rowStrayFrame 0 true) scanning).counters = .zero ∧
    (after (.rowStrayFrame 0 true) { scanning with rowForeign := true }).counters.rowFraming = 1 ∧
    (after (.rowStrayFrame 0 true) { scanning with rowTx := .onRow ⟨⟨.query, 0, 9, [8]⟩, .scan 0, 100000000⟩ }).counters.rowFraming = 1 ∧
    (after (.rowStrayFrame 0 true) { State.reset with rowForeign := true }) = State.reset ∧
    (after (.rowStrayFrame 0 false) State.reset) = { State.reset with rowForeign := true } := by decide +kernel

/-- Activity that begins without row power holds GAP after its return until it ends. -/
theorem test_stray_outlasts_the_return_of_power :
    let off := { demo with power := ⟨false, true, 100000000⟩, rowTx := .powerless, scan := { demo.scan with state := .suspended } }
    let back := after (.rowPowerPresent 200000) (after (.rowStrayFrame 0 false) off)
    (after (.rowGapEnd 9000) back).rowTx = .gap ∧
    (after (.rowStrayFrame 9000 true) back).counters.rowFraming = 1 ∧
    (after (.rowGapEnd 4000) (after (.rowStrayFrame 9000 true) back)).rowTx ≠ .gap := by decide +kernel

/-- A reply may begin from the opening of the window to its 20 ms point: here 30056 us ago. -/
theorem test_reply_begins_in_its_window :
    let f : RowFrame := ⟨⟨.query, 0, 9, [8]⟩, .scan 0, 99961000⟩
    windowCloses scanning f (.frame ⟨[], true, false⟩ 30056) = true ∧
    windowCloses scanning f (.frame ⟨[], true, false⟩ 30057) = false ∧
    windowCloses scanning f (.frame ⟨[], true, false⟩ 10056) = true ∧
    windowCloses scanning f (.frame ⟨[], true, false⟩ 10055) = false ∧
    windowCloses { scanning with portTime := 99989944 } f .silence = true ∧
    windowCloses { scanning with portTime := 99989943 } f .silence = false := by decide +kernel

/-! ## Verification and alignment -/

/-- The window closes; a matching level, another level, a noisy reply, silence, and the third miss. -/
theorem test_verify_outcomes :
    windowCloses verifying ⟨⟨.query, 0, 1, [1]⟩, .verify, 99961000⟩ .silence = true ∧
    (after (.verifyOutcome 0 (heard ⟨.reply, 0, 1, [3, 232]⟩)) verifying).lum 1 = syncedLum ∧
    (after (.verifyOutcome 0 (heard ⟨.reply, 0, 1, [3, 231]⟩)) verifying).pendingList = [1] ∧
    (after (.verifyOutcome 0 (heardNoisy ⟨.reply, 0, 1, [0, 0]⟩)) verifying).lum 1 = syncedLum ∧
    ((after (.verifyOutcome 0 .silence) verifying).lum 1).misses = 1 ∧
    ((after (.verifyOutcome 0 .silence)
      { verifying with lums := verifying.lums.set 1 { syncedLum with misses := 2 } }).lum 1).health = .fault ∧
    ((after (.verifyOutcome 0 (heard ⟨.reply, 0, 1, [3, 232]⟩))
      { verifying with lums := verifying.lums.set 1 { syncedLum with health := .fault, misses := 3 } }).lum 1) = syncedLum ∧
    (after (.verifyOutcome 0 .silence) { verifying with lums := verifying.lums.set 1 pendingLum }).lum 1 = pendingLum ∧
    ((after (.verifyOutcome 0 (heard ⟨.reply, 0, 1, [3, 231]⟩))
      { verifying with lums := verifying.lums.set 1 { syncedLum with health := .fault, misses := 3 } }).lum 1).misses = 0 := by
  decide +kernel

/-- DONE aligns, another reply starts the hold, and a role change in between leaves both. -/
theorem test_alignment_outcomes :
    windowCloses aligning ⟨⟨.deviceConfig, 0, 1, [1, 0, 1]⟩, .alignment, 99961000⟩ .silence = true ∧
    (after (.alignmentOutcome 0 (heard ⟨.reply, 0, 1, [0]⟩)) aligning).lum 1 = syncedLum ∧
    (after (.alignmentOutcome 0 (heard ⟨.reply, 0, 1, [1]⟩)) aligning).verify.alignFail = some ⟨100000, false⟩ ∧
    (after (.alignmentOutcome 0 .silence)
      { aligning with verify := { aligning.verify with alignRecord := some ⟨1, some 0, true⟩ } }).verify.alignFail = none := by
  decide +kernel

/-! ## Scan triggers and events -/

/-- Triggers by mode and state. -/
theorem test_triggers :
    trigger true { demo with tables := { demoTables with settings := { demoTables.settings with mode := .off } } } =
      { demo with tables := { demoTables with settings := { demoTables.settings with mode := .off } } } ∧
    (trigger true scanning).scan.pendingUrgent = true ∧ (trigger true demo).scan.next = some 0 ∧
    trigger true { demo with scan := { demo.scan with state := .suspended } } =
      { demo with scan := { demo.scan with state := .suspended } } ∧
    ((trigger true { demo with tables := { demoTables with channels := defaultTables.channels } }).zone 0).lastPass = ⟨100000, false⟩ := by
  decide +kernel

theorem test_events :
    (raise .rowPowerLost demo).upstream = [⟨.notice ⟨.rowPowerLost, 100000, 7⟩, false, false⟩] ∧
    (raise (.sensorRecovered 0 none) demo).scan.urgent = true ∧
    (raise (.skyTransient 0 1 2) demo).upstream = [] := by decide +kernel

/-- The tick at its period and 1 ms before; the continuous restart; TRIGGER SCAN refused and taken. -/
theorem test_scan_commands :
    (after (.periodicTick 0) { demo with scan := { demo.scan with start := ⟨98000, false⟩ } }).scan.state = .scanning ∧
    (after (.periodicTick 0) { demo with scan := { demo.scan with start := ⟨98001, false⟩ } }).scan.state = .idle ∧
    (after (.continuousRestart 0)
      { demo with
        tables := { demoTables with settings := { demoTables.settings with mode := .continuous } }
        scan := { demo.scan with start := ⟨98000, false⟩, emptyDone := true } }).scan.state = .scanning ∧
    (after (.triggerScan 0 ask) demo).answer = some ⟨⟨.response, 0, 126, [0x50, 1, 0]⟩, 100000000⟩ ∧
    (after (.triggerScan 0 ask)
      { demo with tables := { demoTables with settings := { demoTables.settings with mode := .off } } }).answer =
      some ⟨⟨.response, 0, 126, [0x55]⟩, 100000000⟩ := by decide +kernel

/-! ## Row power -/

/-- Row power is lost at 20 ms and not before, with the tagged entry's reply ahead of the notice; it returns at 200 ms. -/
theorem test_row_power :
    (after (.rowPowerAbsent 20000) { relaying with power := ⟨true, false, 100000000⟩ }).upstream.map UpEntry.rank = [8, 7] ∧
    after (.rowPowerAbsent 19999) { relaying with power := ⟨true, false, 100000000⟩ } =
      passTime 19999 { relaying with power := ⟨true, false, 100000000⟩ } ∧
    (after (.rowPowerPresent 200000)
      { demo with
        power := ⟨false, true, 100000000⟩, rowTx := .powerless, scan := { demo.scan with state := .suspended } }).pendingList =
      [0, 1, 2, 3, 63] ∧
    (after (.rowPowerPresent 199999) { demo with power := ⟨false, true, 100000000⟩, rowTx := .powerless }).rowTx = .powerless ∧
    (after (.rowSenseChange 3 false) demo).power = ⟨true, false, 100000003⟩ := by decide +kernel

/-! ## Management -/

/-- RESTART, COMMIT and the end of the store write at 600 ms; an unknown operation. -/
theorem test_restart_and_store :
    (after (.restart 0 ask) demo).restart = .afterAnswer ∧ (after (.restart 0 ⟨.all, 5⟩) demo).restart = .due ∧
    (after (.storeWriteEnd 0 (.other ⟨demoTables, 0⟩))
      { demo with store := ⟨none, some ⟨⟨demoTables, 1⟩, ⟨99400, false⟩⟩, .none⟩ }).store.last = .failed ∧
    (after (.storeWriteEnd 0 .captured)
      { demo with store := ⟨none, some ⟨⟨demoTables, 1⟩, ⟨99400, false⟩⟩, .none⟩ }).store.last = .done ∧
    (after (.storeWriteEnd 0 .captured)
      { demo with store := ⟨none, some ⟨⟨demoTables, 1⟩, ⟨99401, false⟩⟩, .none⟩ }).store.last = .none ∧
    (after (.commit 0 ask) { demo with store := ⟨none, some ⟨⟨demoTables, 1⟩, ⟨99401, false⟩⟩, .none⟩ }).answer =
      some ⟨⟨.response, 0, 126, [0x53]⟩, 100000000⟩ ∧
    (after (.commit 0 ask) demo).store.writing.map (fun w => w.start) = some ⟨100000, false⟩ ∧
    (after (.unknownOperation 0 ask 9) demo).answer = some ⟨⟨.response, 0, 126, [0x57]⟩, 100000000⟩ := by decide +kernel

/-- Reads: a first part, a part of another capture, a part out of range, and the counters, which are reset. -/
theorem test_reads :
    (after (.readEntryPart0 0 ask 4 0 0) demo).answer =
      some ⟨⟨.response, 0, 126, [0x50, 4, 0, 0, 0, 0, 0, 0, 0]⟩, 100000000⟩ ∧
    (after (.readEntryPart1 0 ask 8 0) demo).answer =
      some ⟨⟨.response, 0, 126, [0x58, 0, 1, 0x82, 0xB8, 0, 0, 0, 0]⟩, 100000000⟩ ∧
    (after (.readEntryPart0 0 ask 1 64 0) demo).answer = some ⟨⟨.response, 0, 126, [0x54]⟩, 100000000⟩ ∧
    (after (.readEntryPart1 0 ask 10 0) demo).answer = some ⟨⟨.response, 0, 126, [0x54]⟩, 100000000⟩ ∧
    (after (.readEntryPart1 0 ask 4 0) { demo with snapshot := some (.entry 4 0 [1, 2, 3, 4, 5, 6, 7, 8, 9]) }).answer =
      some ⟨⟨.response, 0, 126, [0x50, 9]⟩, 100000000⟩ ∧
    (after (.readStatusPart0 0 ask 0) demo).answer = some ⟨⟨.response, 0, 126, [0x50, 1, 0, 1, 0, 0, 0]⟩, 100000000⟩ ∧
    (after (.readStatusPart1 0 ask) { demo with counters := ⟨1, 2, 3, 4, 5, 6, 255⟩ }).counters = .zero := by decide +kernel

/-- Entries of tables 4, 5 and 7 to 10, with every byte of its own. -/
theorem test_entries_as_read :
    let s := { demo with
      tables := { demoTables with
        coeffs := demoTables.coeffs.set 2 #v[1, 2, 3, 4, 5, 6, 7, 0x0FFF]
        groups := demoTables.groups.set 3 0x0102030405060708
        settings := ⟨1, 6, .continuous, 0x1234, some 5, 0x2AB, 3, 4, 0x5678⟩ }
      zones := demo.zones.set 4 ⟨.failsafe, 900, 0x1234, ⟨0x01020304, false⟩, some ⟨0x05060708, false⟩, true, false⟩
      channels := demo.channels.set 6 ⟨0x1234, .suspect, 2, 1, ⟨0x0A0B0C0D, false⟩⟩
      lums := demo.lums.set 7 ⟨0x102, 3, 0x304, .inFlight, 0x506, false, 9, true, false, .fault, 3, 2⟩ }
    readEntry s 4 2 = some [0, 1, 0, 2, 0, 3, 0, 4, 0, 5, 0, 6, 0, 7, 15, 255] ∧
    readEntry s 5 3 = some [1, 2, 3, 4, 5, 6, 7, 8] ∧
    readEntry s 7 0 = some [0x16, 0x34, 0xA5, 0x12, 0x34, 0x56, 0x78, 0xAB] ∧
    readEntry s 8 4 = some [4, 5, 3, 0x84, 0x12, 0x34, 1, 2, 3, 4, 5, 6, 7, 8] ∧
    readEntry s 9 6 = some [0x12, 0x34, 2, 2, 1, 10, 11, 12, 13] ∧
    readEntry s 10 7 = some [1, 2, 0x39, 3, 4, 3, 5, 6, 10, 0x32] := by decide +kernel

/-- The status capture: the channel of a query that is offered, on the row in STOPPING, and 0 in IDLE; indices and tables that do not exist. -/
theorem test_status_as_read :
    statusBytes { demo with
      segment := 9, store := { demo.store with writing := some ⟨imageOf demoTables, .zero⟩, last := .failed }
      scan := { demo.scan with state := .scanning, next := some 5, lastQueried := some 2, urgent := true, pending := true } } =
      [1, 9, 1, 0x12, 1, 0x53] ∧
    scanBytes { demo.scan with state := .stopping, onRow := true, lastQueried := some 2, pendingUrgent := true } = [2, 0x24] ∧
    scanBytes { demo.scan with lastQueried := some 2, next := some 3 } = [0, 0] ∧
    statusBytes { repeater with power := ⟨false, false, 0⟩ } = [0, 0, 0, 0, 0, 0] ∧
    readEntry demo 0 0 = none ∧ readEntry demo 11 0 = none ∧ readEntry demo 1 64 = none ∧ readEntry demo 8 16 = none ∧
    readEntry demo 9 8 = none ∧ readEntry demo 6 11 = none ∧ readEntry demo 7 1 = none := by decide +kernel

/-- Writes of plain tables at the ends of their ranges, with a store write, and of tables that are not writable. -/
theorem test_plain_writes :
    ((after (.writeTrunkGroupMap 0 ask 15 7) demo).tables.groups[15]) = 7 ∧
    (after (.writeTrunkGroupMap 0 ask 16 7) demo).tables = demoTables ∧
    ((after (.writeEventRoute 0 ask 10 0x0701) demo).tables.routes[10]) = ⟨7, true⟩ ∧
    (after (.writeEventRoute 0 ask 10 0x0801) demo).answer = some ⟨⟨.response, 0, 126, [0x54]⟩, 100000000⟩ ∧
    (after (.writeEventRoute 0 ask 11 0x0701) demo).answer = some ⟨⟨.response, 0, 126, [0x54]⟩, 100000000⟩ ∧
    (after (.writeEntryReadOnly 0 ask 10 63) demo).answer = some ⟨⟨.response, 0, 126, [0x55]⟩, 100000000⟩ ∧
    (after (.writeEntryReadOnly 0 ask 11 0) demo).answer = some ⟨⟨.response, 0, 126, [0x54]⟩, 100000000⟩ ∧
    (after (.writeTrunkGroupMap 0 ask 15 7)
      { demo with store := ⟨none, some ⟨⟨demoTables, 1⟩, ⟨99401, false⟩⟩, .none⟩ }).tables = demoTables := by decide +kernel

/-- A load at the end of the row, with clear-rest, past the end, and with a value above 4095. -/
theorem test_load_coefficients :
    (after (.loadCoefficients 0 ask 15 0x17 [4095, 3]) demo).answer = some ⟨⟨.response, 0, 126, [0x54]⟩, 100000000⟩ ∧
    (after (.loadCoefficients 0 ask 15 0x16 [4095, 3]) demo).coeff 15 7 = 3 ∧
    (after (.loadCoefficients 0 ask 16 0x16 [4095, 3]) demo).tables = demoTables ∧
    (after (.loadCoefficients 0 ask 0 0x16 [4096, 3]) demo).tables = demoTables ∧
    (after (.loadCoefficients 0 ask 0 0x81 [5]) { demo with tables := { demoTables with coeffs := Vector.replicate 16 (Vector.replicate 8 9) } }).coeff 0 2 = 0 ∧
    (after (.loadCoefficients 0 ask 0 0x01 [5]) { demo with tables := { demoTables with coeffs := Vector.replicate 16 (Vector.replicate 8 9) } }).coeff 0 2 = 9 := by
  decide +kernel

/-- Row map writes: a luminaire taken away, one given, a refused sensor, a moved one, and a field out of range. -/
theorem test_row_map_writes :
    (after (.writeRowMapEntry 0 ask 1 0x00FF0A) waiting).pendingList = [0, 2] ∧
    (after (.writeRowMapEntry 0 ask 4 0x01FF0A) demo).pendingList = [4] ∧
    (after (.writeRowMapEntry 0 ask 9 0x01FF0A) demo).answer = some ⟨⟨.response, 0, 126, [0x55]⟩, 100000000⟩ ∧
    ((after (.writeRowMapEntry 0 ask 1 0x01FF0A) demo).lum 1).aligned = false ∧
    (after (.writeRowMapEntry 0 ask 5 0x02FF0A) demo).row 5 = ⟨.sensor, none, 10⟩ ∧
    (after (.writeRowMapEntry 0 ask 63 0x01FFFB) demo).answer = some ⟨⟨.response, 0, 126, [0x54]⟩, 100000000⟩ ∧
    (after (.writeRowMapEntry 0 ask 64 0x01FF0A) demo).answer = some ⟨⟨.response, 0, 126, [0x54]⟩, 100000000⟩ := by
  decide +kernel

/-- Zone writes: binding, unbinding, and a change of values alone. -/
theorem test_zone_writes :
    ((after (.writeZoneConfig 0 ask 1 0x850F1F419001E258) demo).zone 1) =
      ⟨.track, 1000, 0, ⟨100000, false⟩, none, false, false⟩ ∧
    ((after (.writeZoneConfig 0 ask 0 0x050F1F419001E258) (zoneAt .track 300 none)).zone 0).mode = .unbound ∧
    ((after (.writeZoneConfig 0 ask 0 0x050F1F419001E258) (zoneAt .track 300 none)).zone 0).ratio = 300 ∧
    ((after (.writeZoneConfig 0 ask 0 0x850F1F419001E258) (zoneAt .track 300 none)).zone 0).mode = .track ∧
    (after (.writeZoneConfig 0 ask 16 0x850F1F419001E258) demo).tables = demoTables ∧
    (after (.writeZoneConfig 0 ask 1 0x85651F419001E258) demo).tables = demoTables ∧
    ((after (.writeZoneConfig 0 ask 0 0x070F1F419001E258)
      { zoneAt .track 300 none with
        lums := demo.lums.set 1 { syncedLum with base := 300, output := 90, sent := 90 } }).lum 1) =
      { syncedLum with base := 300, output := 300, sent := 90, shadow := .pending, emissionFade := 7 } := by decide +kernel

/-- SET ZONE MODE to a bound zone, an unbound one, all zones, a wrong zone and a wrong mode. -/
theorem test_zone_modes :
    ((after (.setZoneModeHold 0 ask 0 2) demo).zone 0).mode = .hold ∧
    ((after (.setZoneModeManual 0 ask 255 3) (zoneAt .hold 0 (some 5))).zone 0) =
      ⟨.manual, 1000, 0, ⟨99000, false⟩, none, false, false⟩ ∧
    ((after (.setZoneModeTrack 0 ask 0 1) (zoneAt .failsafe 1000 none)).zone 0).mode = .failsafe ∧
    (after (.setZoneModeTrack 0 ask 15 1) demo).answer = some ⟨⟨.response, 0, 126, [0x55]⟩, 100000000⟩ ∧
    (after (.setZoneModeTrack 0 ask 16 1) demo).answer = some ⟨⟨.response, 0, 126, [0x54]⟩, 100000000⟩ ∧
    (after (.setZoneModeTrack 0 ask 0 4) demo).answer = some ⟨⟨.response, 0, 126, [0x54]⟩, 100000000⟩ := by decide +kernel

/-- Channel writes: a new unit with the query on the row and with it offered, another k, and a unit that is no sensor. -/
theorem test_channel_writes :
    (after (.writeChannelConfig 0 ask 0 0xFF0400) scanning).scan.disregard = true ∧
    ((after (.writeChannelConfig 0 ask 0 0xFF0400) (offered false none [] demo)).zone 0).lastPass = ⟨100000, false⟩ ∧
    (after (.writeChannelConfig 0 ask 1 0x090400) (offered false none [] demo)).scan.next = some 0 ∧
    (after (.writeChannelConfig 0 ask 0 0x090001) demo).channelConfig 0 = ⟨some 9, 1⟩ ∧
    (after (.writeChannelConfig 0 ask 7 0x030000) demo).answer = some ⟨⟨.response, 0, 126, [0x55]⟩, 100000000⟩ ∧
    (after (.writeChannelConfig 0 ask 8 0x090000) demo).answer = some ⟨⟨.response, 0, 126, [0x54]⟩, 100000000⟩ ∧
    (after (.writeChannelConfig 0 ask 7 0x091000) demo).answer = some ⟨⟨.response, 0, 126, [0x54]⟩, 100000000⟩ := by
  decide +kernel

/-- Settings writes: to OFF while scanning, offered and idle; away from OFF; to CONTINUOUS; a shorter period that is over. -/
theorem test_settings_writes :
    (after (.writeSettings 0 ask 0 0x07330F07D003E8FA) scanning).scan.state = .stopping ∧
    (after (.writeSettings 0 ask 0 0x07330F07D003E8FA) (offered false none [] demo)).scan.state = .idle ∧
    (after (.writeSettings 0 ask 0 0x07330F07D003E8FA) demo).scan = demo.scan ∧
    (after (.writeSettings 0 ask 0 0x07334F07D003E8FA)
      { demo with tables := { demoTables with settings := { demoTables.settings with mode := .off } } }).scan.state = .scanning ∧
    (after (.writeSettings 0 ask 0 0x07338F07D003E8FA) demo).scan.state = .scanning ∧
    (after (.writeSettings 0 ask 0 0x07334F03E803E8FA) demo).scan.state = .scanning ∧
    (after (.writeSettings 0 ask 0 0x07334F03E903E8FA) demo).scan.state = .idle ∧
    (after (.writeSettings 0 ask 0 0x07334F00F903E8FA) demo).tables = demoTables ∧
    (after (.writeSettings 0 ask 1 0x07334F07D003E8FA) demo).tables = demoTables := by decide +kernel

/-- Settings writes in STOPPING: away from OFF rescan is pending, and the tick is taken if it is due; to OFF again it is cleared. -/
theorem test_settings_writes_in_stopping :
    let stopping := { scanning with
      scan := { scanning.scan with state := .stopping }
      tables := { demoTables with settings := { demoTables.settings with mode := .off } } }
    (after (.writeSettings 0 ask 0 0x07334F07D003E8FA) stopping).scan = { stopping.scan with pending := true } ∧
    (after (.writeSettings 0 ask 0 0x07334F03E803E8FA) stopping).scan =
      { stopping.scan with pending := true, tickTaken := true } ∧
    (after (.writeSettings 0 ask 0 0x07330F07D003E8FA)
      { stopping with
        tables := demoTables, scan := { stopping.scan with pending := true } }).scan = stopping.scan := by decide +kernel

end Sys2Proof.Tests
end

namespace Sys2Proof.Machine

/-! ## Output updates of a SYNCED entry (R27, R28) -/

/-- Storing in an entry the output it holds is no change. -/
theorem setLum_output_of_eq {s : State} {a : Addr} {o : Nat} (h : o = (s.lum a).output) :
    s.setLum a { s.lum a with output := o } = s := by
  rw [h]
  exact setLum_lum s a

/-- An update that changes the output always takes effect by the entry's shadow state (R27). -/
theorem outputUpdate_of_ne {a : Addr} {o : Nat} {s : State} (h : o ≠ (s.lum a).output)
    (urgent : Bool) (fade : Fade) :
    outputUpdate a o urgent fade s = applyUpdate a o urgent fade s :=
  if_neg fun ⟨_, unchanged⟩ => h unchanged

/-- The SYNCED case of the shadow rules (R28), whether or not S is the output held before. -/
theorem applyUpdate_of_synced {a : Addr} {s : State} (h : (s.lum a).shadow = .synced)
    (o : Nat) (urgent : Bool) (fade : Fade) :
    applyUpdate a o urgent fade s =
      if o = (s.lum a).sent then s.setLum a { s.lum a with output := o }
      else joinPending a (s.setLum a { s.lum a with
             output := o, shadow := .pending, urgent := urgent, emissionFade := fade }) := by
  simp only [applyUpdate, h]

/-- In SYNCED an urgent update with an unchanged output is without effect too: S is already sent. -/
theorem outputUpdate_of_synced_unchanged {a : Addr} {o : Nat} {s : State}
    (synced : (s.lum a).shadow = .synced) (isSent : o = (s.lum a).sent)
    (isOutput : o = (s.lum a).output) (urgent : Bool) (fade : Fade) :
    outputUpdate a o urgent fade s = s := by
  unfold outputUpdate
  split
  · rfl
  · rw [applyUpdate_of_synced synced, if_pos isSent, setLum_output_of_eq isOutput]

/-- Settles O30: an output equal to S is the output held, and one that differs from S is a new one. -/
theorem updateInSynced : Obligations.UpdateInSynced := by
  intro a o urgent fade s synced sentIsOutput
  by_cases isSent : o = (s.lum a).sent
  · rw [if_pos isSent]
    exact outputUpdate_of_synced_unchanged synced isSent (isSent.trans sentIsOutput) urgent fade
  · have isNew : o ≠ (s.lum a).output := sentIsOutput ▸ isSent
    rw [if_neg isSent, outputUpdate_of_ne isNew, applyUpdate_of_synced synced, if_neg isSent]
    rfl

end Sys2Proof.Machine

namespace Sys2Proof.Machine

/-! ## Channel values and the estimate (R66 to R70) -/

/-- Below the cap the substituted value is the quotient of R69 itself. -/
theorem substitute_of_below_cap {k sky : Nat} (below : substitute k sky < 20000) :
    substitute k sky = (k * sky + 512) / 1024 := by
  unfold substitute at below ⊢
  omega

/-- The sky ratio's and the reading's ranges bound the product and the quotient of R69. -/
theorem substitute_product_bounds {k sky : Nat} (ratio : k ≤ 4095) (reading : sky ≤ 20000) :
    k * sky ≤ 81900000 ∧ (k * sky + 512) / 1024 ≤ 79980 := by
  have product : k * sky ≤ 4095 * 20000 := Nat.mul_le_mul ratio reading
  omega

/-- Below the cap the substituted value is the nearest lux to k × E_sky / 1024, a half rounded up (R69). -/
theorem substitute_rounds {k sky : Nat} (below : substitute k sky < 20000) :
    2 * (k * sky) < 2 * (substitute k sky * 1024) + 1024 ∧
    2 * (substitute k sky * 1024) ≤ 2 * (k * sky) + 1024 := by
  rw [substitute_of_below_cap below]
  omega

/-- The sky reading of a pass is there when the sky channel is set and usable directly (R67). -/
theorem skyReading_of_usable {s : State} {q : ChannelId} (skySet : s.settings.sky = some q)
    (direct : usableDirectly s q = true) : skyReading s = some (s.channel q).reading := by
  simp only [skyReading, skySet, if_pos direct]

/-- A channel that meets the conditions of R67 has its substituted value in the pass (R69). -/
theorem channelValue_of_substitution {s : State} {c : ChannelId} {sky : Nat}
    (notDirect : usableDirectly s c = false) (inRange : inScanRange s c = true)
    (stale : (s.channel c).health = .stale) (skySeen : skyReading s = some sky)
    (related : 0 < (s.channelConfig c).k) :
    channelValue s c = some (substitute (s.channelConfig c).k sky) := by
  simp only [channelValue, notDirect, skySeen, Bool.false_eq_true, if_false]
  exact if_pos ⟨inRange, stale, related⟩

/-- Leaving out elements whose values are 0 does not change a sum. -/
theorem sum_map_filter_of_zero {α : Type} {p : α → Bool} {f : α → Nat}
    (zero : ∀ a, p a = false → f a = 0) (as : List α) :
    ((as.filter p).map f).sum = (as.map f).sum := by
  induction as with
  | nil => rfl
  | cons a as ih =>
    cases kept : p a with
    | true => simp only [List.filter_cons_of_pos kept, List.map_cons, List.sum_cons, ih]
    | false =>
      have left : ¬ p a = true := Bool.eq_false_iff.mp kept
      simp only [List.filter_cons_of_neg left, List.map_cons, List.sum_cons, ih, zero a kept,
        Nat.zero_add]

/-- A channel with coefficient 0 adds nothing, so the accumulator sums over all channels (R70). -/
theorem accumulate_eq_sum (s : State) (z : ZoneId) :
    accumulate s z = (channelIds.map fun c => s.coeff z c * (channelValue s c).getD 0).sum := by
  refine sum_map_filter_of_zero (fun c unweighed => ?_) channelIds
  have zero : s.coeff z c = 0 := Nat.eq_zero_of_not_pos (of_decide_eq_false unweighed)
  rw [zero, Nat.zero_mul]

/-- A pass leaves every channel as it was: readings, health and counts (R69). -/
@[simp] theorem computePass_channel (s : State) (c : ChannelId) :
    (computePass s).channel c = s.channel c := by
  obtain ⟨-, -, -, -, -, channels, -⟩ := (computePass_frame s).keeps
  simp only [State.channel, channels]

/-- Settles O25: the arithmetic of R69, the value a channel used by substitution takes, and the pass's frame on the channels. -/
theorem substitutedValueIsRounded : Obligations.SubstitutedValueIsRounded := by
  refine ⟨fun _ _ => rfl, fun _ _ => substitute_product_bounds, fun _ _ => substitute_rounds, ?_, ?_,
    computePass_channel⟩
  · intro s c q notDirect inRange stale skySet direct related
    exact channelValue_of_substitution notDirect inRange stale (skyReading_of_usable skySet direct) related
  · intro s z
    rw [estimateOf, accumulate_eq_sum]

/-! ## The raw ratio (R71) -/

/-- With the target met, a target of 0 included, nothing is wanted. -/
theorem rawRatio_of_met {t d : Nat} (met : t ≤ d) : rawRatio t d = 0 := if_pos met

/-- Below the target the raw ratio is the shortfall in thousandths of the target, rounded up. -/
theorem rawRatio_of_short {t d : Nat} (short : d < t) :
    rawRatio t d = ((t - d) * 1000 + t - 1) / t := if_neg (Nat.not_le.mpr short)

/-- The raw ratio is the least one that makes up the shortfall. -/
theorem rawRatio_le_iff {t d r : Nat} (short : d < t) :
    rawRatio t d ≤ r ↔ (t - d) * 1000 ≤ r * t := by
  rw [rawRatio_of_short short, Nat.div_le_iff_le_mul (Nat.zero_lt_of_lt short)]
  omega

/-- Full output makes up any shortfall. -/
theorem rawRatio_le_full {t d : Nat} (short : d < t) : rawRatio t d ≤ 1000 := by
  rw [rawRatio_le_iff short]
  omega

/-- No shortfall is made up by a ratio of 0. -/
theorem rawRatio_pos {t d : Nat} (short : d < t) : 1 ≤ rawRatio t d := by
  refine Nat.lt_of_not_le fun isZero => ?_
  have madeUp : (t - d) * 1000 ≤ 0 * t := (rawRatio_le_iff short).mp isZero
  omega

/-- The raw ratio exceeds the shortfall by less than one thousandth of the target. -/
theorem rawRatio_mul_lt {t d : Nat} (short : d < t) :
    rawRatio t d * t < (t - d) * 1000 + t := by
  have rounded : rawRatio t d * t ≤ (t - d) * 1000 + t - 1 := by
    rw [rawRatio_of_short short]
    exact Nat.div_mul_le_self _ _
  omega

/-! ## The ratio a pass leaves, by mode (R71, R75) -/

/-- In TRACK, R slews toward the dead-banded raw ratio. -/
theorem passRatio_track (s : State) (z : ZoneId) :
    passRatio s z .track =
      slew (s.zoneConfig z) (passInterval (s.zone z) s.clock) (s.zone z).ratio
        (deadBanded (s.zoneConfig z).deadBand
          (rawRatio (s.zoneConfig z).target (estimateOf s z)) (s.zone z).ratio) := rfl

/-- In FAILSAFE, R slews toward 1000, with no dead band. -/
theorem passRatio_failsafe (s : State) (z : ZoneId) :
    passRatio s z .failsafe =
      slew (s.zoneConfig z) (passInterval (s.zone z) s.clock) (s.zone z).ratio 1000 := rfl

@[simp] theorem passRatio_hold (s : State) (z : ZoneId) :
    passRatio s z .hold = (s.zone z).ratio := rfl

@[simp] theorem passRatio_manual (s : State) (z : ZoneId) :
    passRatio s z .manual = (s.zone z).ratio := rfl

/-- Settles O27: the shortfall rounded up, and the four bound modes of a pass. -/
theorem rawRatioIsTheShareWanted : Obligations.RawRatioIsTheShareWanted := by
  refine ⟨fun d => rawRatio_of_met d.zero_le, fun _ _ => rawRatio_of_met, ?_, ?_⟩
  · intro t d _ short
    exact ⟨rawRatio_of_short short, rawRatio_pos short, rawRatio_le_full short,
      (rawRatio_le_iff short).mp (Nat.le_refl _), rawRatio_mul_lt short⟩
  · intro s z
    exact ⟨passRatio_track s z, passRatio_failsafe s z, passRatio_hold s z, passRatio_manual s z⟩

/-! ## The dead band and the slew (R72, R73) -/

/-- The dead band's test of the difference without sign, as two bounds. -/
theorem deadBanded_eq (band raw r : Nat) :
    deadBanded band raw r =
      if raw ≠ 0 ∧ raw ≠ 1000 ∧ raw ≤ r + band ∧ r ≤ raw + band then r else raw := by
  have distance : max raw r - min raw r ≤ band ↔ raw ≤ r + band ∧ r ≤ raw + band := by omega
  simp only [deadBanded, distance]

/-- With a dead band of 0 only an equal ratio is within it, so the raw ratio always stands. -/
@[simp] theorem deadBanded_zero_band (raw r : Nat) : deadBanded 0 raw r = raw := by
  rw [deadBanded_eq]
  split <;> omega

/-- A raw ratio above the band stands, whether or not the band is applied to it. -/
theorem deadBanded_of_above {band raw r : Nat} (above : r + band < raw) :
    deadBanded band raw r = raw := by
  rw [deadBanded_eq]
  exact if_neg fun ⟨_, _, within, _⟩ => absurd within (Nat.not_le.mpr above)

/-- A ratio that is the wanted one is left as it is. -/
@[simp] theorem slew_self (c : ZoneConfig) (dt r : Nat) : slew c dt r r = r := by
  rw [slew, if_neg (Nat.lt_irrefl r)]
  exact Nat.max_eq_left (Nat.sub_le _ _)

/-- A slew step is at least 1, whatever the rate and the elapsed time. -/
theorem slewStep_pos (rate dt : Nat) : 0 < slewStep rate dt :=
  Nat.lt_of_lt_of_le Nat.one_pos (Nat.le_max_left _ _)

/-- A ratio below the wanted one rises. -/
theorem lt_slew {c : ZoneConfig} {r wanted : Nat} (dt : Nat) (below : r < wanted) :
    r < slew c dt r wanted := by
  rw [slew, if_pos below]
  exact Nat.lt_min.mpr ⟨below, Nat.lt_add_of_pos_right (slewStep_pos _ _)⟩

/-- A zero dwell that is running is kept while R is 0 (R74). -/
@[simp] theorem zeroDwell_running (since now : Stamp) :
    zeroDwell 0 (some since) now = some since := rfl

/-- Settles O28: within the band the wanted ratio is R itself, above it R rises toward the raw ratio. -/
theorem deadBandHoldsTheRatio : Obligations.DeadBandHoldsTheRatio := by
  intro band raw r
  refine ⟨deadBanded_eq band raw r, ?_, deadBanded_zero_band raw r, ?_, zeroDwell_running,
    fun s z => ⟨passRatio_track s z, passRatio_failsafe s z⟩⟩
  · intro c dt notZero notFull notAbove notBelow
    have held : deadBanded band raw r = r := by
      rw [deadBanded_eq, if_pos ⟨notZero, notFull, notAbove, notBelow⟩]
    rw [held, slew_self]
  · intro c dt above
    rw [deadBanded_of_above above]
    exact lt_slew dt (by omega)

end Sys2Proof.Machine

namespace Sys2Proof.Machine

/-! ## Base level and base fade, which no choice of the arbiter touches (R31, R98, R108) -/

/-- The two fields an absorbed SET LEVEL stores in an entry as they were taken (R98, R99). -/
def Lum.bases (l : Lum) : Nat × Fade := (l.base, l.baseFade)

/-- What an output update leaves of an entry includes its bases (R27). -/
theorem Lum.SameBut.bases {l m : Lum} (h : l.SameBut m) : m.bases = l.bases := by
  rw [h]
  rfl

/-- Every entry has the base level and base fade it had. -/
def BasesKept (s t : State) : Prop := ∀ a, (t.lum a).bases = (s.lum a).bases

theorem BasesKept.refl (s : State) : BasesKept s s := fun _ => rfl

theorem BasesKept.trans {s t u : State} (h : BasesKept s t) (k : BasesKept t u) : BasesKept s u :=
  fun a => (k a).trans (h a)

theorem BasesKept.foldl {α : Type} {f : State → α → State} (h : ∀ s x, BasesKept s (f s x))
    (xs : List α) (s : State) : BasesKept s (xs.foldl f s) := by
  induction xs generalizing s with
  | nil => exact .refl s
  | cons x xs ih => exact (h s x).trans (ih (f s x))

theorem startCovered_bases (level : Nat) (s : State) (a : Addr) :
    BasesKept s (startCovered level s a) := by
  intro b
  rw [startCovered_lum]
  by_cases covered : b = a
  · rw [if_pos covered, covered]
    rfl
  · rw [if_neg covered]

theorem emit_bases (unit : Byte) (head : Addr) (covered : List Addr) (s : State) :
    BasesKept s (emit unit head covered s) := by
  unfold emit
  exact BasesKept.trans (fun _ => rfl) (BasesKept.foldl (startCovered_bases _) covered _)

theorem takeLevel_bases (s : State) : BasesKept s (takeLevel s) := by
  unfold takeLevel
  split
  · exact .refl s
  · split <;> exact emit_bases _ _ _ s

theorem clearAligned_bases (f : Frame) (s : State) : BasesKept s (clearAligned f s) := by
  intro a
  simp only [clearAligned, State.lum, Vector.getElem_ofFn]
  split <;> rfl

theorem takeForward_bases (s : State) : BasesKept s (takeForward s) := by
  unfold takeForward
  split
  · exact .refl s
  · dsimp only
    split
    · exact BasesKept.trans (fun _ => rfl) (clearAligned_bases _ _)
    · exact fun _ => rfl

theorem takeScan_bases (s : State) : BasesKept s (takeScan s) := by
  unfold takeScan
  split
  · exact .refl s
  · split <;> exact fun _ => rfl

theorem takeAlignment_bases (s : State) : BasesKept s (takeAlignment s) := by
  unfold takeAlignment
  split <;> exact fun _ => rfl

theorem takeVerify_bases (s : State) : BasesKept s (takeVerify s) := by
  unfold takeVerify
  split <;> exact fun _ => rfl

theorem countStarvation_bases (s : State) : BasesKept s (countStarvation s) := by
  unfold countStarvation
  split <;> exact fun _ => rfl

theorem take_bases (s : State) (k : CandidateClass) : BasesKept s (take s k) := by
  cases k with
  | a => exact (countStarvation_bases s).trans (takeLevel_bases _)
  | b => exact (countStarvation_bases s).trans (takeForward_bases _)
  | c => exact takeScan_bases s
  | d => exact takeLevel_bases s
  | e => exact takeAlignment_bases s
  | f => exact takeVerify_bases s

/-- The frame that a choice of the arbiter starts leaves every base level and base fade. -/
theorem arbitrate_bases (s : State) : BasesKept s (arbitrate s) := by
  unfold arbitrate
  split
  · split
    · exact take_bases s _
    · exact .refl s
  · exact .refl s

/-- A choice of the arbiter counts nothing and hands the trunk no answer. -/
theorem TakeFrame.counters_answer {s t : State} (h : TakeFrame s t) :
    t.counters = s.counters ∧ t.answer = s.answer := by
  unfold TakeFrame at h
  rw [h]
  exact ⟨rfl, rfl⟩

/-! ## An absorbed SET LEVEL (R98 to R101) -/

/-- The taken level, as R98 words it. -/
theorem takenLevel_eq (level : BitVec 16) :
    takenLevel level = if level.toNat ≤ 1000 then level.toNat else 1000 := Nat.min_def

/-- The taken fade code, as R98 words it. -/
theorem takenFade_val (fade : Byte) :
    (takenFade fade).val = if fade.toNat ≤ 15 then fade.toNat else 15 := by
  unfold takenFade
  by_cases inRange : fade.toNat < 16
  · rw [dif_pos inRange, if_pos (Nat.le_of_lt_succ inRange)]
  · rw [dif_neg inRange, if_neg fun le => inRange (Nat.lt_succ_of_le le)]
    rfl

/-- The entry a SET LEVEL is absorbed into has the given base level and base fade; its update leaves them (R27, R99). -/
theorem absorb_bases (level : Nat) (fade : Fade) (s : State) (a : Addr) :
    ((absorb level fade s a).lum a).bases = (level, fade) := by
  unfold absorb
  obtain ⟨-, -, same⟩ := outputUpdate_lum a a
    ((s.setLum a { s.lum a with base := level, baseFade := fade }).outputOf a) true fade
    (s.setLum a { s.lum a with base := level, baseFade := fade })
  rw [same.bases, lum_setLum_self]
  rfl

/-- Each of the entries a SET LEVEL is absorbed into has the given base level and base fade (R100, R101). -/
theorem absorbAll_bases (level : Nat) (fade : Fade) {as : List Addr} (nodup : as.Nodup) (s : State)
    {a : Addr} (member : a ∈ as) : ((absorbAll level fade as s).lum a).bases = (level, fade) := by
  rw [absorbAll_lum level fade as nodup, if_pos member, absorb_bases]

theorem mem_addresses (a : Addr) : a ∈ addresses := List.mem_finRange a

/-- One luminaire makes the segment HARVESTING (R25). -/
theorem harvesting_of_luminaire {s : State} {a : Addr} (luminaire : s.isLum a = true) :
    s.harvesting = true :=
  List.any_eq_true.mpr ⟨a, mem_addresses a, luminaire⟩

theorem mem_luminaires {s : State} {a : Addr} (luminaire : s.isLum a = true) : a ∈ s.luminaires :=
  List.mem_filter.mpr ⟨mem_addresses a, luminaire⟩

theorem mem_groupMembers {s : State} {g : GroupId} {a : Addr} (luminaire : s.isLum a = true)
    (inGroup : (s.tables.groups[g.val]).getLsbD a.val = true) : a ∈ s.groupMembers g :=
  List.mem_filter.mpr ⟨mem_addresses a, Bool.and_eq_true_iff.mpr ⟨luminaire, inGroup⟩⟩

theorem setLevelUnit_of_luminaire {s : State} {a : Addr} (luminaire : s.isLum a = true)
    (level : BitVec 16) (fade : Byte) (extra : List Byte) :
    setLevelUnit a level fade extra s = absorb (takenLevel level) (takenFade fade) s a :=
  if_pos luminaire

theorem setLevelUnit_of_not_luminaire {s : State} {a : Addr} (other : s.isLum a = false)
    (level : BitVec 16) (fade : Byte) (extra : List Byte) :
    setLevelUnit a level fade extra s =
      forwardUntagged (forwardedLevel s (BitVec.ofNat 8 a.val) level fade extra) s :=
  if_neg (Bool.eq_false_iff.mp other)

theorem setLevelGroup_of_harvesting {s : State} (harvesting : s.harvesting = true) (g : GroupId)
    (level : BitVec 16) (fade : Byte) (extra : List Byte) :
    setLevelGroup g level fade extra s =
      absorbAll (takenLevel level) (takenFade fade) (s.groupMembers g) s :=
  if_pos harvesting

theorem setLevelAll_of_harvesting {s : State} (harvesting : s.harvesting = true)
    (level : BitVec 16) (fade : Byte) (extra : List Byte) :
    setLevelAll level fade extra s =
      absorbAll (takenLevel level) (takenFade fade) s.luminaires s :=
  if_pos harvesting

/-- An untagged frame offered to the forward queue is appended, or dropped and counted (R137). -/
theorem forwardUntagged_forwardedAs (f : Frame) (s : State) :
    State.ForwardedAs f s (forwardUntagged f s) := by
  unfold State.ForwardedAs forwardUntagged
  by_cases room : s.forward.length < 4
  · rw [if_pos room]
    exact if_neg (Nat.not_le.mpr room)
  · rw [if_neg room]
    exact if_pos (Nat.not_lt.mp room)

/-! ## What the luminaire status table returns of the bases (R161) -/

/-- The upper half of a byte made of two four-bit values is the first of them. -/
theorem byte_high_nibble (high low : Fin 16) : (byte (high.val * 16 + low.val)).toNat / 16 = high.val := by
  rw [byte, BitVec.toNat_ofNat]
  omega

theorem readEntry_luminaireStatus (s : State) (a : Addr) :
    readEntry s 10 a.val = some (lumBytes (s.lum a)) := dif_pos a.isLt

/-- The luminaire status table returns the base level in two bytes and then the base fade in the upper half of a byte. -/
theorem luminaireStatus_of_bases {t : State} {a : Addr} {level : Nat} {fade : Fade}
    (bases : (t.lum a).bases = (level, fade)) :
    ∃ rest, readEntry t 10 a.val = some (bytes16 level ++ rest) ∧
      (rest.headD 0).toNat / 16 = fade.val := by
  obtain ⟨rfl, rfl⟩ := Prod.mk.inj bases
  exact ⟨(lumBytes (t.lum a)).drop 2, readEntry_luminaireStatus t a,
    byte_high_nibble (t.lum a).baseFade (t.lum a).emissionFade⟩

/-! ## Saturation of an absorbed SET LEVEL (R98) -/

/-- `t` is `v` after a SET LEVEL with the received level and fade has been taken by entry `a`: saturated in the entry and in its status, with no count and no answer (R98). -/
def State.SaturatedInto (level : BitVec 16) (fade : Byte) (v t : State) (a : Addr) : Prop :=
  let B := if level.toNat ≤ 1000 then level.toNat else 1000
  let F := if fade.toNat ≤ 15 then fade.toNat else 15
  (t.lum a).base = B ∧ (t.lum a).baseFade.val = F ∧ t.counters = v.counters ∧ t.answer = v.answer ∧
  ∃ rest, readEntry t 10 a.val = some (bytes16 B ++ rest) ∧ (rest.headD 0).toNat / 16 = F

/-- An absorption that touches only the row map and leaves the taken values in `a` is seen saturated after the arbiter's choice. -/
theorem saturatedInto_of_absorbed {level : BitVec 16} {fade : Byte} {v u : State} {a : Addr}
    (frame : RowMapFrame v u) (absorbed : (u.lum a).bases = (takenLevel level, takenFade fade)) :
    State.SaturatedInto level fade v (arbitrate u) a := by
  have kept : ((arbitrate u).lum a).bases = (takenLevel level, takenFade fade) :=
    (arbitrate_bases u a).trans absorbed
  obtain ⟨base, baseFade⟩ := Prod.mk.inj kept
  obtain ⟨counters, answer⟩ := (frame.take.trans (arbitrate_frame u)).counters_answer
  have status := luminaireStatus_of_bases kept
  unfold State.SaturatedInto
  rw [← takenLevel_eq, ← takenFade_val]
  exact ⟨base, congrArg Fin.val baseFade, counters, answer, status⟩

/-- A SET LEVEL to a luminaire is saturated into it. -/
theorem setLevelUnit_saturates {v : State} {a : Addr} (luminaire : v.isLum a = true)
    (level : BitVec 16) (fade : Byte) (extra : List Byte) :
    State.SaturatedInto level fade v (arbitrate (setLevelUnit a level fade extra v)) a := by
  rw [setLevelUnit_of_luminaire luminaire]
  exact saturatedInto_of_absorbed (absorb_frame _ _ v a) (absorb_bases _ _ v a)

/-- A SET LEVEL to several luminaires is saturated into each. -/
theorem absorbAll_saturates {as : List Addr} {a : Addr} (nodup : as.Nodup) (member : a ∈ as)
    (level : BitVec 16) (fade : Byte) (v : State) :
    State.SaturatedInto level fade v
      (arbitrate (absorbAll (takenLevel level) (takenFade fade) as v)) a :=
  saturatedInto_of_absorbed (absorbAll_frame _ _ as v) (absorbAll_bases _ _ nodup v member)

/-- A SET LEVEL to a group is saturated into each of its luminaires. -/
theorem setLevelGroup_saturates {v : State} {g : GroupId} {a : Addr} (luminaire : v.isLum a = true)
    (inGroup : (v.tables.groups[g.val]).getLsbD a.val = true)
    (level : BitVec 16) (fade : Byte) (extra : List Byte) :
    State.SaturatedInto level fade v (arbitrate (setLevelGroup g level fade extra v)) a := by
  rw [setLevelGroup_of_harvesting (harvesting_of_luminaire luminaire)]
  exact absorbAll_saturates (addresses_nodup.filter _) (mem_groupMembers luminaire inGroup) level fade v

/-- A SET LEVEL to unit 127 is saturated into every luminaire. -/
theorem setLevelAll_saturates {v : State} {a : Addr} (luminaire : v.isLum a = true)
    (level : BitVec 16) (fade : Byte) (extra : List Byte) :
    State.SaturatedInto level fade v (arbitrate (setLevelAll level fade extra v)) a := by
  rw [setLevelAll_of_harvesting (harvesting_of_luminaire luminaire)]
  exact absorbAll_saturates (addresses_nodup.filter _) (mem_luminaires luminaire) level fade v

/-- Settles O33: the three targets of an absorbed SET LEVEL, and the forwarded one with what it received. -/
theorem absorbedLevelSaturates : Obligations.AbsorbedLevelSaturates := by
  intro after dest level fade extra s
  refine ⟨?unit, ?group, ?broadcast, ?forwarded⟩
  case unit =>
    intro a luminaire
    exact ⟨_, rfl, setLevelUnit_saturates luminaire level fade extra⟩
  case group =>
    intro g a luminaire inGroup
    exact ⟨_, rfl, setLevelGroup_saturates luminaire inGroup level fade extra⟩
  case broadcast =>
    intro a luminaire
    exact ⟨_, rfl, setLevelAll_saturates luminaire level fade extra⟩
  case forwarded =>
    refine fun a unit => ⟨rfl, fun other => ⟨_, rfl, ?_⟩⟩
    rw [setLevelUnit_of_not_luminaire other]
    exact forwardUntagged_forwardedAs _ _

end Sys2Proof.Machine

namespace Sys2Proof.Machine

/-! ## Raising an event while the scan controller is SUSPENDED (R171, R51) -/

/-- In SUSPENDED no trigger is taken, whatever the scan mode (R51). -/
theorem trigger_of_suspended {s : State} (suspended : s.scan.state = .suspended) (urgent : Bool) :
    trigger urgent s = s := by
  unfold trigger
  split
  · rfl
  · rw [suspended]

/-- In SUSPENDED an event makes its notice and nothing else: a route's rescan is lost (R51, R171). -/
theorem raise_of_suspended {s : State} (suspended : s.scan.state = .suspended) (e : Event) :
    raise e s = noticeOf e s := by
  have stillSuspended : (noticeOf e s).scan.state = .suspended := by
    have frame := noticeOf_frame e s
    unfold UpstreamFrame at frame
    rw [frame]
    exact suspended
  unfold raise
  rw [trigger_of_suspended stillSuspended, ite_self]

/-- A notice offered to an empty queue has nothing to merge with or displace (R15, R16). -/
theorem offerNotice_of_empty {s : State} (empty : s.upstream = []) (n : Notice) :
    offerNotice n s = { s with upstream := [⟨.notice n, false, false⟩] } := by
  simp [offerNotice, empty, noticeCount, place, Config.noticeCapacity, Config.upstreamCapacity]

/-- An event that meets an empty queue leaves its notice there alone, or nothing where its route gives priority 0 (R171). -/
theorem noticeOf_of_empty {s : State} (empty : s.upstream = []) (e : Event) :
    noticeOf e s = { s with
      upstream :=
        if s.tables.routes[e.kind.val].priority = 0 then []
        else [⟨.notice ⟨e, s.clock, s.tables.routes[e.kind.val].priority⟩, false, false⟩] } := by
  unfold noticeOf
  dsimp only
  by_cases unrouted : s.tables.routes[e.kind.val].priority = 0
  · rw [if_neg (by omega), if_pos unrouted, ← empty]
  · rw [if_pos (by omega), if_neg unrouted, offerNotice_of_empty empty]

/-! ## The tables loaded at power-on (R165, R167, R168) -/

/-- A minimum level in range is at most 250 (R23). -/
theorem pmin_le_of_inRange {t : Tables} (inRange : t.inRange = true) (a : Addr) :
    t.rowMap[a.val].pmin ≤ 250 := by
  simp only [Tables.inRange, Bool.and_eq_true, List.all_eq_true] at inRange
  obtain ⟨⟨⟨⟨⟨rows, _⟩, _⟩, _⟩, _⟩, _⟩ := inRange
  have row := rows t.rowMap[a.val] (by simp)
  simp only [RowConfig.inRange, decide_eq_true_eq] at row
  exact row.2

/-- Every field of the default tables is in range. -/
theorem defaultTables_inRange : defaultTables.inRange = true := by decide

/-- What power-on loads: the stored image's tables where no write was interrupted and the image passes its check, and otherwise the defaults. -/
theorem loadTables_storedImage (s : State) :
    (∃ i, s.store.writing = none ∧ s.store.image = some i ∧ i.passes = true ∧
      loadTables (storedImage s) = (i.tables, .powerOn)) ∨
    ((s.store.writing ≠ none ∨ ∀ i, s.store.image = some i → i.passes = false) ∧
      loadTables (storedImage s) = (defaultTables, .defaults)) := by
  cases writing : s.store.writing with
  | some w => exact .inr ⟨.inl nofun, by simp [storedImage, writing, loadTables]⟩
  | none =>
    cases image : s.store.image with
    | none => exact .inr ⟨.inr nofun, by simp [storedImage, writing, image, loadTables]⟩
    | some i =>
      cases passes : i.passes with
      | true => exact .inl ⟨i, rfl, rfl, passes, by simp [storedImage, writing, image, loadTables, passes]⟩
      | false =>
        refine .inr ⟨.inr fun j same => ?_, by simp [storedImage, writing, image, loadTables, passes]⟩
        cases same
        exact passes

/-- The tables loaded at power-on are in range: those of an image by its check. -/
theorem loadTables_inRange (s : State) : (loadTables (storedImage s)).1.inRange = true := by
  obtain ⟨i, _, _, passes, loaded⟩ | ⟨_, loaded⟩ := loadTables_storedImage s
  · rw [loaded]
    rw [StoreImage.passes, Bool.and_eq_true] at passes
    exact passes.1
  · rw [loaded]
    exact defaultTables_inRange

/-! ## The blocks at power-on (R168) -/

/-- The power-on values of every block, before the outputs are recomputed. -/
def bootState (straps : Fin 16) (above : Bool) (s : State) : State :=
  { State.reset with
    pending := s.pending
    segment := straps
    tables := (loadTables (storedImage s)).1
    zones := restartZones (loadTables (storedImage s)).1
    power := ⟨false, above, 0⟩
    upstream := []
    store := ⟨storedImage s, none, .none⟩ }

theorem powerOnBlocks_eq_recomputeAll (straps : Fin 16) (above : Bool) (s : State) :
    powerOnBlocks straps above s = recomputeAll (bootState straps above s) := rfl

@[simp] theorem bootState_lum (straps : Fin 16) (above : Bool) (s : State) (a : Addr) :
    (bootState straps above s).lum a = .initial := by
  simp [State.lum, bootState, State.reset]

@[simp] theorem bootState_zone (straps : Fin 16) (above : Bool) (s : State) (z : ZoneId) :
    (bootState straps above s).zone z = restartZone ((bootState straps above s).zoneConfig z) := by
  simp [State.zone, State.zoneConfig, bootState, restartZones]

@[simp] theorem bootState_channel (straps : Fin 16) (above : Bool) (s : State) (c : ChannelId) :
    (bootState straps above s).channel c = .initial := by
  simp [State.channel, bootState, State.reset]

/-- Recomputing outputs that are already what the output rule gives changes nothing. -/
theorem recomputeAll_of_outputs {s : State} (outputs : ∀ a, s.outputOf a = (s.lum a).output) :
    recomputeAll s = s := by
  have kept : (recomputeAll s).lums = s.lums := lums_ext fun a => by
    simp [recomputeAll, State.lum, outputs]
  exact congrArg (fun l => { s with lums := l }) kept

/-- A full base level at R = 1000 gives full output, if the minimum level is no higher (R77). -/
theorem boundOutput_full {v : ZoneStatus} (full : v.ratio = 1000) {pmin : Nat} (low : pmin ≤ 1000)
    (c : ZoneConfig) (now : Clock) : boundOutput c v now 1000 pmin = 1000 := by
  simp [boundOutput, full, low]

/-- At power-on B and R are full, so the output rule gives every entry full output, its initial O. -/
theorem bootState_outputOf (straps : Fin 16) (above : Bool) (s : State) (a : Addr) :
    (bootState straps above s).outputOf a = 1000 := by
  have low : ((bootState straps above s).row a).pmin ≤ 250 :=
    pmin_le_of_inRange (loadTables_inRange s) a
  unfold State.outputOf State.outputFor
  rw [bootState_lum]
  split
  · rfl
  · split
    · rfl
    · exact boundOutput_full (by rw [bootState_zone]; rfl) (by omega) _ _

/-- Recomputing the outputs at power-on changes none of the power-on values. -/
theorem powerOnBlocks_eq (straps : Fin 16) (above : Bool) (s : State) :
    powerOnBlocks straps above s = bootState straps above s := by
  rw [powerOnBlocks_eq_recomputeAll]
  exact recomputeAll_of_outputs fun a => by rw [bootState_outputOf, bootState_lum]; rfl

/-- Power-on leaves the power-on values and, in the upstream queue, RESTARTED if its route gives a priority. -/
theorem powerOn_eq (straps : Fin 16) (above : Bool) (s : State) :
    powerOn straps above s = { bootState straps above s with
      upstream :=
        if (bootState straps above s).tables.routes[0].priority = 0 then []
        else [⟨.notice ⟨.restarted (loadTables (storedImage s)).2, 0,
          (bootState straps above s).tables.routes[0].priority⟩, false, false⟩] } := by
  unfold powerOn
  rw [powerOnBlocks_eq, raise_of_suspended rfl, noticeOf_of_empty rfl]
  rfl

/-- HARVESTING is that some entry is a LUMINAIRE (R25). -/
theorem harvesting_iff (s : State) : s.harvesting = true ↔ ∃ a, (s.row a).role = .luminaire := by
  simp [State.harvesting, State.isLum, addresses]

/-- Settles O5: the tables by what the store holds, and each block by its power-on value. -/
theorem powerOnStartsEveryBlock : Obligations.PowerOnStartsEveryBlock := by
  intro after straps above s
  refine ⟨_, (loadTables (storedImage s)).2, congrArg Host.Outcome.next (powerOn_eq straps above s),
    ?tables, rfl, rfl, harvesting_iff _, bootState_lum straps above s, rfl, bootState_zone straps above s,
    bootState_channel straps above s, ?values⟩
  case tables =>
    obtain ⟨i, idle, image, passes, loaded⟩ | ⟨noImage, loaded⟩ := loadTables_storedImage s
    · exact .inl ⟨i, idle, image, passes, congrArg Prod.fst loaded, congrArg Prod.snd loaded⟩
    · have tables : (bootState straps above s).tables = defaultTables := congrArg Prod.fst loaded
      refine .inr ⟨noImage, congrArg Prod.snd loaded, ?_⟩
      simp [State.row, State.zoneConfig, State.channelConfig, State.coeff, State.settings, tables,
        defaultTables]
  case values =>
    and_intros <;> rfl

end Sys2Proof.Machine

namespace Sys2Proof.Machine

/-! ## The CRC-8 register (R173) -/

/-- One byte in the register: the exclusive-or with it, then eight shifts. -/
theorem crc8Byte_eq_shifts (r b : Byte) :
    crc8Byte r b = (List.range 8).foldl (fun r _ => crc8Shift r) (r ^^^ b) := rfl

/-- The byte that the register holds cancels it, and shifting 0 leaves 0. -/
theorem crc8Byte_self (r : Byte) : crc8Byte r r = 0 := by
  rw [crc8Byte, BitVec.xor_self]
  decide

theorem crc8_append (bs : List Byte) (b : Byte) : crc8 (bs ++ [b]) = crc8Byte (crc8 bs) b :=
  List.foldl_append

/-- Run on through the check byte, the register of a good frame ends at 0. -/
theorem crc8_append_self (bs : List Byte) : crc8 (bs ++ [crc8 bs]) = 0 := by
  rw [crc8_append, crc8Byte_self]

/-! ## The receiver's comparison with the check byte (R5, R173) -/

/-- The low nibble of a header is the payload length, which a frame keeps at 12 or less (R4). -/
theorem header_length (kind : Nat) {n : Nat} (short : n ≤ 12) :
    (byte (kind * 16 + n)).toNat % 16 = n := by
  rw [byte, BitVec.toNat_ofNat]
  omega

/-- A whole frame of the length its header tells is judged by its last byte alone. -/
theorem checkFrame_body_append {f : Frame} (short : f.payload.length ≤ 12) (c : Byte)
    (noise : Bool) :
    checkFrame ⟨f.body ++ [c], false, noise⟩ =
      if crc8 f.body = c then
        .good ((byte (kindCode f.kind * 16 + f.payload.length)).toNat / 16) f.segment f.unit f.payload
      else .check := by
  have length := header_length (kindCode f.kind) short
  have whole : ¬ (false = true ∨ 12 < f.payload.length ∨
      (f.payload ++ [c]).length ≠ f.payload.length + 1) := by
    simpa using short
  simp only [checkFrame, Frame.body, List.cons_append, length, if_neg whole,
    List.dropLast_concat, List.getLastD_concat, ne_eq, ite_not]
  -- The two conditionals agree up to the decision procedure `simp` rewrote under.
  rfl

/-- Settles O15: the register byte by byte, closed by the check byte, which the receiver compares. -/
theorem checkByteIsTheCrc : Obligations.CheckByteIsTheCrc := by
  refine ⟨rfl, ?register, fun _ => rfl, fun f => crc8_append_self f.body, ?receiver⟩
  case register =>
    intro bs b
    rw [crc8_append, crc8Byte_eq_shifts]
    rfl
  case receiver =>
    intro f c noise short
    rw [checkFrame_body_append short]
    by_cases same : crc8 f.body = c
    · simp [same]
    · simp [same, Ne.symm same]

end Sys2Proof.Machine

namespace Sys2Proof.Machine

/-! ## Choices, lists and searches

Facts about conditionals, lists and least numbers that core Lean does not have: the package builds without Mathlib. -/

theorem ite_congr_iff {α : Type} {p q : Prop} [Decidable p] [Decidable q] {x y u v : α} (conditions : p ↔ q) (yes : x = u)
    (no : y = v) : (if p then x else y) = if q then u else v := by
  subst yes no
  by_cases h : p
  · rw [if_pos h, if_pos (conditions.mp h)]
  · rw [if_neg h, if_neg fun k => h (conditions.mpr k)]

theorem congrArg_two {α β γ : Type} (f : α → β → γ) {a a' : α} {b b' : β} (first : a = a') (second : b = b') :
    f a b = f a' b' := by rw [first, second]

section
variable {α : Type} {l m : List α}

/-- Induction along a list from its last member. -/
theorem snoc_induction {p : List α → Prop} (nil : p []) (snoc : ∀ l a, p l → p (l ++ [a])) (l : List α) : p l := by
  rw [← List.reverse_reverse l]
  induction l.reverse with
  | nil => exact nil
  | cons a r ih =>
    rw [List.reverse_cons]
    exact snoc _ a ih

theorem filterMap_eq_flatMap_toList {β : Type} (f : α → Option β) (l : List α) :
    l.filterMap f = l.flatMap fun a => (f a).toList := by
  induction l with
  | nil => rfl
  | cons a l ih =>
    rw [List.flatMap_cons, ← ih]
    cases value : f a with
    | none => exact List.filterMap_cons_none value
    | some b => exact List.filterMap_cons_some value

theorem nodup_concat {a : α} (nodup : l.Nodup) (absent : a ∉ l) : (l ++ [a]).Nodup := by
  refine List.nodup_append.mpr ⟨nodup, List.pairwise_singleton _ a, fun x left y right same => ?_⟩
  rw [List.mem_singleton.mp right] at same
  exact absent (same ▸ left)

/-- A list without repetition is no longer than one that has all its members. -/
theorem length_le_of_subset [DecidableEq α] (nodup : l.Nodup) (within : ∀ a ∈ l, a ∈ m) : l.length ≤ m.length := by
  induction l generalizing m with
  | nil => exact Nat.zero_le _
  | cons a l ih =>
    obtain ⟨absent, nodup⟩ := List.nodup_cons.mp nodup
    have member : a ∈ m := within a List.mem_cons_self
    have others : ∀ b ∈ l, b ∈ m.erase a := fun b isIn => by
      have differ : b ≠ a := fun same => absent (same ▸ isIn)
      exact (List.mem_erase_of_ne differ).mpr (within b (List.mem_cons_of_mem a isIn))
    have rest := ih nodup others
    rw [List.length_erase_of_mem member] at rest
    have some := List.length_pos_of_mem member
    rw [List.length_cons]
    omega

/-- A list without repetition has two entries exactly when two of its members differ. -/
theorem two_le_length_iff [DecidableEq α] (nodup : l.Nodup) :
    2 ≤ l.length ↔ ∃ a b, a ≠ b ∧ a ∈ l ∧ b ∈ l := by
  constructor
  · intro long
    match l, long with
    | a :: b :: rest, _ =>
      obtain ⟨absent, -⟩ := List.nodup_cons.mp nodup
      exact ⟨a, b, fun same => absent (same ▸ List.mem_cons_self), List.mem_cons_self,
        List.mem_cons_of_mem a List.mem_cons_self⟩
  · intro ⟨a, b, differ, first, second⟩
    refine length_le_of_subset (l := [a, b]) ?_ ?_
    · exact List.nodup_cons.mpr ⟨fun same => differ (List.mem_singleton.mp same), List.pairwise_singleton _ b⟩
    · intro x member
      obtain rfl | last := List.mem_cons.mp member
      · exact first
      · rw [List.mem_singleton.mp last]
        exact second

end

/-- Where some number has a property, there is a least one. -/
theorem exists_least {p : Nat → Prop} {n : Nat} (has : p n) : ∃ k, k ≤ n ∧ p k ∧ ∀ j, j < k → ¬ p j := by
  induction n using Nat.strongRecOn with
  | _ n ih =>
    by_cases before : ∃ m, m < n ∧ p m
    · obtain ⟨m, less, has⟩ := before
      obtain ⟨k, within, least⟩ := ih m less has
      exact ⟨k, Nat.le_trans within (Nat.le_of_lt less), least⟩
    · exact ⟨n, Nat.le_refl n, has, fun j less has => before ⟨j, less, has⟩⟩

/-- The first fitting entry of an ascending list is the least. -/
theorem find?_of_least {n : Nat} {l : List (Fin n)} {p : Fin n → Bool} {x : Fin n} (ascending : l.Pairwise (· < ·))
    (member : x ∈ l) (fits : p x = true) (least : ∀ y ∈ l, p y = true → x ≤ y) : l.find? p = some x := by
  induction l with
  | nil => cases member
  | cons y ys ih =>
    obtain ⟨before, ascending⟩ := List.pairwise_cons.mp ascending
    obtain rfl | later := List.mem_cons.mp member
    · exact List.find?_cons_of_pos fits
    · have not : ¬ p y = true := fun fitsFirst =>
        absurd (before x later) (Fin.not_lt.mpr (least y List.mem_cons_self fitsFirst))
      rw [List.find?_cons_of_neg not]
      exact ih ascending later fun z isIn => least z (List.mem_cons_of_mem y isIn)

end Sys2Proof.Machine

namespace Sys2Proof.Machine

/-! ## Moves that no invariant sees

The invariants of Safety.lean read the tables, the entries and their pending list, zones, channels,
the scan controller, row power, the row transmitter, the starvation count, the emission record, the
two queues, the tags, the counters and the verification records. -/

/-- Only times, trunk transmissions, the store, the snapshot and other fields differ that no invariant reads. -/
def Quiet (s t : State) : Prop :=
  t = { s with
    clock := t.clock, subMs := t.subMs, portTime := t.portTime
    power := ⟨s.power.present, t.power.above, t.power.since⟩
    rowActivity := t.rowActivity, rowForeign := t.rowForeign, lowerTurn := t.lowerTurn
    lastTag := t.lastTag, noticesLost := t.noticesLost, lostSinceStart := t.lostSinceStart
    trunkTx := t.trunkTx, answer := t.answer, trunkIdle := t.trunkIdle
    store := t.store, snapshot := t.snapshot, restart := t.restart }

theorem Quiet.refl (s : State) : Quiet s s := rfl

theorem Quiet.trans {s t u : State} (h : Quiet s t) (k : Quiet t u) : Quiet s u := by
  unfold Quiet at h k ⊢
  rw [k, h]

theorem passTime_quiet (us : Nat) (s : State) : Quiet s (passTime us s) := rfl

theorem answerWith_quiet (f : Frame) (s : State) : Quiet s (answerWith f s) := rfl

theorem answerOver_quiet (s : State) : Quiet s (answerOver s) := rfl

theorem respond_quiet (req : Request) (p : Reply × State) : Quiet p.2 (respond req p) := by
  unfold respond
  split
  · exact answerWith_quiet _ _
  · exact .refl _

theorem crossThreshold_quiet (above : Bool) (s : State) : Quiet s (crossThreshold above s) := by
  unfold crossThreshold
  split
  · exact .refl s
  · exact rfl

theorem startAnswer_quiet (s : State) : Quiet s (startAnswer s) := by
  unfold startAnswer
  split
  · split
    · exact rfl
    · exact .refl s
  · exact .refl s

/-- Every counter that is counted up stays within its 8 bits (R22). -/
theorem bump_le (n : Nat) : bump n ≤ 255 := Nat.min_le_right _ _

/-- What a window's outcome does to the counters keeps them in range (R11, R22). -/
theorem countOutcome_ok (o : WindowOutcome) (s : State) (ok : s.counters.Ok) :
    (countOutcome o s).counters.Ok := by
  unfold Counters.Ok at ok ⊢
  cases o <;> simp [countOutcome, countNoisy, countRowFraming, countRowCheck, bump_le, ok]

theorem lineActivity_ok (s : State) (ok : s.counters.Ok) : (lineActivity s).counters.Ok := by
  unfold lineActivity
  split
  · exact ok
  · unfold Counters.Ok at ok ⊢
    simp [answerOver, countArbitration, bump_le, ok]

/-! ## A predicate that every command leaves behind

`Before` is what is known when a command begins, `Inv` what its parts hand on and what it leaves;
most invariants take one predicate for both. -/

/-- The changes of mode that SET ZONE MODE makes of a zone (R90 to R92). -/
def ZoneChange (change : ZoneStatus → ZoneStatus) : Prop :=
  change = holdZone ∨ change = manualZone ∨ change = trackZone

/-- Each part of a command that can change what an invariant reads keeps the invariant. -/
structure StepRule (Before Inv : State → Prop) : Prop where
  start : ∀ s, Before s → Inv s
  quietBefore : ∀ {s t}, Before s → Quiet s t → Before t
  quiet : ∀ {s t}, Inv s → Quiet s t → Inv t
  countBefore : ∀ s c, (s.counters.Ok → c.Ok) → Before s → Before { s with counters := c }
  count : ∀ s c, (s.counters.Ok → c.Ok) → Inv s → Inv { s with counters := c }
  powerOn : ∀ straps above s, Before s → Inv (powerOn straps above s)
  warmRestart : ∀ s, Before s → Inv (warmRestart s)
  rowPowerLost : ∀ s, Before s → Inv (rowPowerLost s)
  rowPowerReturned : ∀ s, s.power.present = false → Before s → Inv (rowPowerReturned s)
  startHead : ∀ s, Before s → Inv (startHead s)
  loseHead : ∀ s, Before s → Inv { s with upstream := s.upstream.map UpEntry.unmark }
  finishSending : ∀ flag s, Before s → Inv (finishSending flag s)
  absorb : ∀ level fade s a, level ≤ 1000 → Inv s → Inv (absorb level fade s a)
  forwardUntagged : ∀ f s, Inv s → Inv (forwardUntagged f s)
  defer : ∀ f s, f.opensWindow = true → Before s → Inv (defer f s)
  rowWrite : ∀ a r s, r.inRange = true → Before s → Inv (applyRowWrite a r s)
  zoneWrite : ∀ z c s, c.inRange = true → Before s → Inv (applyZoneWrite z c s)
  channelWrite : ∀ c v s, v.inRange = true → Before s → Inv (applyChannelWrite c v s)
  groupWrite : ∀ g v s, Before s → Inv (applyGroupWrite g v s)
  routeWrite : ∀ k r s, r.inRange = true → Before s → Inv (applyRouteWrite k r s)
  settingsWrite : ∀ k t s, t.inRange = true → Before s → Inv (applySettingsWrite k t s)
  loadRow : ∀ (z : ZoneId) (row : Vector Nat 8) s,
    (s.tables.inRange = true → ∀ c ∈ row.toList, c ≤ 4095) → Before s →
    Inv { s with tables := { s.tables with coeffs := s.tables.coeffs.set z.val row } }
  changeMode : ∀ change s z, ZoneChange change → (s.zone z).mode ≠ .unbound → Inv s →
    Inv (changeMode change s z)
  trigger : ∀ urgent s, Before s → Inv (trigger urgent s)
  takeTick : ∀ s, Before s → Inv (takeTick s)
  raise : ∀ e s, Before s → Inv (raise e s)
  arbitrate : ∀ s, Inv s → Inv (arbitrate s)
  ready : ∀ s, s.rowTx = .gap → Before s → Inv { s with rowTx := .ready }
  leaveReady : ∀ s, s.rowTx = .ready → Before s → Inv { s with rowTx := .gap }
  finishLevel : ∀ s f, s.rowTx = .onRow f → f.owner = .level → Before s → Inv (finishLevel s)
  popForward : ∀ s f, s.rowTx = .onRow f → f.owner = .forward →
    (f.frame.opensWindow = false ∨ ∀ e q, s.forward = e :: q → e.tag = none) →
    Before s → Inv (enterGap (Machine.popForward s))
  closeDeferred : ∀ s f e q o, s.rowTx = .onRow f → f.owner = .forward → s.forward = e :: q →
    Before s → Inv (deferredOutcome e o (enterGap (Machine.popForward s)))
  closeScan : ∀ s f c w, s.rowTx = .onRow f → f.owner = .scan c → Before s →
    Inv (scanOutcome c (channelOutcome w) (enterGap s))
  closeVerify : ∀ s f o, s.rowTx = .onRow f → f.owner = .verify → Before s →
    Inv (verifyOutcome o (enterGap s))
  closeAlignment : ∀ s f o, s.rowTx = .onRow f → f.owner = .alignment → Before s →
    Inv (alignOutcome o (enterGap s))
  expire : ∀ t s, Before s → Inv (expire t s)
  saturate : ∀ s, Before s → Inv (saturateStamps s)

namespace StepRule

variable {Before Inv : State → Prop}

/-! ### Parts that commands share -/

theorem passTime (r : StepRule Before Inv) (us : Nat) {s : State} (h : Before s) :
    Before (passTime us s) := r.quietBefore h (passTime_quiet us s)

theorem trunkFrameEnd (r : StepRule Before Inv) (us : Nat) {s : State} (h : Before s) :
    Before (trunkFrameEnd us s) := by
  have heard : Before { Machine.passTime us s with
      counters := (lineActivity (Machine.passTime us s)).counters } :=
    r.countBefore _ _ (lineActivity_ok _) (r.passTime us h)
  refine r.quietBefore heard ?_
  unfold Machine.trunkFrameEnd frameHeard
  rw [lineActivity_frame]
  exact rfl

theorem respond (r : StepRule Before Inv) (req : Request) {p : Reply × State} (h : Inv p.2) :
    Inv (respond req p) := r.quiet h (respond_quiet req p)

theorem answerWith (r : StepRule Before Inv) (f : Frame) {s : State} (h : Inv s) :
    Inv (answerWith f s) := r.quiet h (answerWith_quiet f s)

theorem countOutcome (r : StepRule Before Inv) (o : WindowOutcome) {s : State} (h : Before s) :
    Before (countOutcome o s) := by
  rw [countOutcome_frame]
  exact r.countBefore _ _ (countOutcome_ok o s) h

/-- A write that is refused changes nothing, and one that is taken is applied (R156). -/
theorem writeTable (r : StepRule Before Inv) {α : Type} {n : Nat} {index : Byte} {parsed : Option α}
    {allowed : Fin n → α → State → Bool} {apply : Fin n → α → State → State} {s : State}
    (taken : ∀ k v, parsed = some v → Inv (apply k v s)) (h : Before s) :
    Inv (writeTable n index parsed allowed apply s).2 := by
  obtain ⟨st, refused⟩ | ⟨below, v, -, parsed, -, applied⟩ := writeTable_cases n index parsed allowed apply s
  · rw [refused]
    exact r.start s h
  · rw [applied]
    exact taken _ v parsed

end StepRule

/-! ### What the parsers let through -/

theorem parseRow_inRange {e : BitVec 24} {r : RowConfig} (h : parseRow e = some r) : r.inRange = true := by
  unfold parseRow at h
  split at h
  · dsimp only at h
    split at h
    · next ok => cases h; exact ok
    · cases h
  · cases h

theorem parseZone_inRange {e : BitVec 64} {z : ZoneConfig} (h : parseZone e = some z) : z.inRange = true := by
  unfold parseZone at h
  dsimp only at h
  split at h
  · next ok => cases h; exact ok
  · cases h

theorem parseChannel_inRange {e : BitVec 24} {c : ChannelConfig} (h : parseChannel e = some c) :
    c.inRange = true := by
  unfold parseChannel at h
  split at h
  · dsimp only at h
    split at h
    · next ok => cases h; exact ok
    · cases h
  · cases h

theorem parseRoute_inRange {e : BitVec 16} {r : Route} (h : parseRoute e = some r) : r.inRange = true := by
  unfold parseRoute at h
  dsimp only at h
  split at h
  · next ok =>
    cases h
    exact (Bool.and_eq_true_iff.mp ok).1
  · cases h

theorem parseSettings_inRange {e : BitVec 64} {t : Settings} (h : parseSettings e = some t) :
    t.inRange = true := by
  unfold parseSettings at h
  split at h
  · dsimp only at h
    split at h
    · next ok => cases h; exact ok
    · cases h
  · cases h

/-! ### Coefficients -/

/-- A loaded row holds the values given, zeros and what was there (R159). -/
theorem loadedRow_le {row : Vector Nat 8} {first n bound : Nat} {clear : Bool} {values : List (BitVec 16)}
    (given : ∀ v ∈ values.take n, v.toNat ≤ bound) (held : ∀ c ∈ row.toList, c ≤ bound) :
    ∀ c ∈ (loadedRow row first n clear values).toList, c ≤ bound := by
  have kept : ∀ c : ChannelId, row[c.val] ≤ bound := fun c => held _ (by simp)
  intro x member
  simp only [loadedRow, Vector.mem_toList_iff, Vector.mem_ofFn] at member
  obtain ⟨c, rfl⟩ := member
  split
  · next within =>
    cases value : values[c.val - first]? with
    | none => exact kept c
    | some v =>
      refine given v (List.mem_of_getElem? (i := c.val - first) ?_)
      rw [List.getElem?_take, if_pos (by omega), value]
  · split
    · exact Nat.zero_le _
    · exact kept c

/-- A coefficient row of tables in range holds values up to 4095 (R64). -/
theorem coeffs_le_of_inRange {t : Tables} (inRange : t.inRange = true) (z : ZoneId) :
    ∀ c ∈ t.coeffs[z.val].toList, c ≤ 4095 := by
  simp only [Tables.inRange, Bool.and_eq_true, List.all_eq_true, decide_eq_true_eq] at inRange
  obtain ⟨⟨⟨_, coeffs⟩, _⟩, _⟩ := inRange
  exact coeffs _ (by simp)

namespace StepRule

variable {Before Inv : State → Prop}

theorem loadCoefficients (r : StepRule Before Inv) (zone channelByte : Byte) (values : List (BitVec 16))
    {s : State} (h : Before s) : Inv (loadCoefficients zone channelByte values s).2 := by
  unfold Machine.loadCoefficients
  dsimp only
  split
  · next below =>
    split
    · exact r.start s h
    · split
      · exact r.start s h
      · split
        · exact r.start s h
        · next small =>
          refine r.loadRow ⟨zone.toNat, below⟩ _ s (fun inRange => loadedRow_le ?_ ?_) h
          · simpa using small
          · exact coeffs_le_of_inRange inRange ⟨zone.toNat, below⟩
  · exact r.start s h

end StepRule

/-! ### SET ZONE MODE -/

/-- A change of mode leaves a bound zone bound (R90 to R92). -/
theorem ZoneChange.bound {change : ZoneStatus → ZoneStatus} (c : ZoneChange change) {v : ZoneStatus}
    (bound : v.mode ≠ .unbound) : (change v).mode ≠ .unbound := by
  obtain rfl | rfl | rfl := c
  · exact nofun
  · unfold manualZone
    split
    · exact bound
    · exact nofun
  · unfold trackZone
    split
    · exact bound
    · exact nofun

/-- What a change of mode leaves in each zone. -/
theorem changeMode_zone (change : ZoneStatus → ZoneStatus) (s : State) (z y : ZoneId) :
    (changeMode change s z).zone y = if y = z then change (s.zone z) else s.zone y := by
  unfold changeMode
  split
  · next same =>
    by_cases e : y = z
    · rw [if_pos e, e, same]
    · rw [if_neg e]
  · rw [(recomputeZone_frame z _).zone, zone_setZone]

theorem changeMode_bound {change : ZoneStatus → ZoneStatus} (c : ZoneChange change) (s : State) (z : ZoneId)
    {y : ZoneId} (bound : (s.zone y).mode ≠ .unbound) : ((changeMode change s z).zone y).mode ≠ .unbound := by
  rw [changeMode_zone]
  by_cases e : y = z
  · subst e
    rw [if_pos rfl]
    exact c.bound bound
  · rwa [if_neg e]

namespace StepRule

variable {Before Inv : State → Prop}

theorem foldl_changeMode (r : StepRule Before Inv) {change : ZoneStatus → ZoneStatus}
    (c : ZoneChange change) (zs : List ZoneId) {s : State} (bound : ∀ z ∈ zs, (s.zone z).mode ≠ .unbound)
    (h : Inv s) : Inv (zs.foldl (Machine.changeMode change) s) := by
  induction zs generalizing s with
  | nil => exact h
  | cons z zs ih =>
    refine ih (fun y member => changeMode_bound c s z (bound y (List.mem_cons_of_mem z member))) ?_
    exact r.changeMode change s z c (bound z List.mem_cons_self) h

theorem setZoneMode (r : StepRule Before Inv) {change : ZoneStatus → ZoneStatus} (c : ZoneChange change)
    (code : Nat) (zone mode : Byte) {s : State} (h : Inv s) :
    Inv (setZoneMode code change zone mode s).2 := by
  unfold Machine.setZoneMode
  dsimp only
  split
  · next below =>
    split
    · exact h
    · split
      · exact h
      · next bound => exact r.changeMode change s ⟨zone.toNat, below⟩ c bound h
  · split
    · split
      · exact h
      · refine r.foldl_changeMode c _ (fun z member => ?_) h
        simpa [State.boundZones] using (List.mem_filter.mp member).2
    · exact h

/-! ### Levels, configuration and queries -/

theorem absorbAll (r : StepRule Before Inv) {level : Nat} (small : level ≤ 1000) (fade : Fade)
    (as : List Addr) {s : State} (h : Inv s) : Inv (absorbAll level fade as s) := by
  unfold Machine.absorbAll
  induction as generalizing s with
  | nil => exact h
  | cons a as ih => exact ih (r.absorb level fade s a small h)

end StepRule

theorem takenLevel_le (level : BitVec 16) : takenLevel level ≤ 1000 := Nat.min_le_right _ _

/-- A frame to one unit is one that the row answers, if it is a QUERY or a DEVICE CONFIG (R9). -/
theorem opensWindow_of_unit {k : FrameKind} (kind : k = .query ∨ k = .deviceConfig) (segment : Byte) (a : Addr)
    (payload : List Byte) : (Frame.mk k segment (BitVec.ofNat 8 a.val) payload).opensWindow = true := by
  have small : a.val % 256 < 64 := by omega
  obtain rfl | rfl := kind <;> simp [Frame.opensWindow, BitVec.toNat_ofNat, small]

/-- A DEVICE CONFIG that is deferred goes to one unit (R106, R107). -/
theorem opensWindow_of_deferred {s : State} {dest : Dest} {target : Target} {setGroups : Bool}
    (deferred : configTreatment s dest target setGroups = .deferred) (segment : Byte) (payload : List Byte) :
    (Frame.mk .deviceConfig segment target.byte payload).opensWindow = true := by
  cases target with
  | unit a => exact opensWindow_of_unit (.inr rfl) segment a payload
  | group g =>
    unfold configTreatment at deferred
    dsimp only at deferred
    split at deferred <;> cases deferred
  | all =>
    unfold configTreatment at deferred
    dsimp only at deferred
    split at deferred <;> cases deferred

namespace StepRule

variable {Before Inv : State → Prop}

theorem setLevelUnit (r : StepRule Before Inv) (a : Addr) (level : BitVec 16) (fade : Byte)
    (extra : List Byte) {s : State} (h : Inv s) : Inv (setLevelUnit a level fade extra s) := by
  unfold Machine.setLevelUnit
  split
  · exact r.absorb _ _ s a (takenLevel_le level) h
  · exact r.forwardUntagged _ s h

theorem setLevelGroup (r : StepRule Before Inv) (g : GroupId) (level : BitVec 16) (fade : Byte)
    (extra : List Byte) {s : State} (h : Inv s) : Inv (setLevelGroup g level fade extra s) := by
  unfold Machine.setLevelGroup
  split
  · exact r.absorbAll (takenLevel_le level) _ _ h
  · exact r.forwardUntagged _ s h

theorem setLevelAll (r : StepRule Before Inv) (level : BitVec 16) (fade : Byte)
    (extra : List Byte) {s : State} (h : Inv s) : Inv (setLevelAll level fade extra s) := by
  unfold Machine.setLevelAll
  split
  · exact r.absorbAll (takenLevel_le level) _ _ h
  · exact r.forwardUntagged _ s h

theorem takeConfig (r : StepRule Before Inv) (dest : Dest) (target : Target) (payload : List Byte)
    {s : State} (h : Before s) : Inv (takeConfig dest target payload s) := by
  unfold Machine.takeConfig
  dsimp only
  split
  · exact r.answerWith _ (r.start s h)
  · exact r.start s h
  · next deferred => exact r.defer _ s (opensWindow_of_deferred deferred _ _) h
  · exact r.forwardUntagged _ s (r.start s h)

theorem takeQuery (r : StepRule Before Inv) (a : Addr) (item : Byte) (extra : List Byte)
    {s : State} (h : Before s) : Inv (takeQuery a item extra s) := by
  unfold Machine.takeQuery
  dsimp only
  split
  · exact r.answerWith _ (r.start s h)
  · exact r.defer _ s (opensWindow_of_unit (.inl rfl) _ a _) h

/-! ### Reads, COMMIT, RESTART and the store -/

theorem answerRead (r : StepRule Before Inv) (req : Request) {read : State → Reply × State} {s : State}
    (h : Inv s) (kept : Inv (read s).2) : Inv (answerRead req read s) := by
  unfold Machine.answerRead
  split
  · exact r.respond req kept
  · exact h

theorem readPart0 (r : StepRule Before Inv) (table index part : Nat) {s : State} (h : Inv s) :
    Inv (readPart0 table index part s).2 := by
  unfold Machine.readPart0
  split
  · exact h
  · split
    · exact h
    · exact r.quiet h rfl

theorem readPart1 {table index : Nat} {s : State} (h : Inv s) : Inv (readPart1 table index s).2 := by
  unfold Machine.readPart1
  split
  · exact h
  · split
    · exact h
    · split <;> exact h

theorem readStatus0 (r : StepRule Before Inv) (part : Nat) {s : State} (h : Inv s) :
    Inv (readStatus0 part s).2 := by
  unfold Machine.readStatus0
  split
  · exact h
  · exact r.quiet h rfl

theorem readStatus1 (r : StepRule Before Inv) {s : State} (h : Inv s) : Inv (readStatus1 s).2 :=
  r.count s .zero (fun _ => by simp [Counters.Ok, Counters.zero]) h

theorem commit (r : StepRule Before Inv) {s : State} (h : Inv s) : Inv (commit s).2 := by
  unfold Machine.commit
  split
  · exact h
  · exact r.quiet h rfl

theorem scheduleRestart (r : StepRule Before Inv) (dest : Dest) {s : State} (h : Inv s) :
    Inv (scheduleRestart dest s).2 := by
  unfold Machine.scheduleRestart
  split
  · exact h
  · exact r.quiet h rfl

theorem writeReadOnly {table index : Byte} {s : State} (h : Inv s) : Inv (writeReadOnly table index s).2 := by
  unfold Machine.writeReadOnly
  split <;> exact h

theorem triggerScan (r : StepRule Before Inv) {s : State} (h : Before s) : Inv (triggerScan s).2 := by
  unfold Machine.triggerScan
  split
  · exact r.start s h
  · exact r.trigger false s h

theorem endWriteIfOver (r : StepRule Before Inv) (found : ReadBack) {s : State} (h : Before s) :
    Inv (endWriteIfOver found s) := by
  unfold Machine.endWriteIfOver
  split
  · split
    · exact r.raise _ _ (r.quietBefore h rfl)
    · exact r.start s h
  · exact r.start s h

theorem tickIfDue (r : StepRule Before Inv) {s : State} (h : Before s) : Inv (tickIfDue s) := by
  unfold Machine.tickIfDue
  split
  · exact r.takeTick s h
  · exact r.start s h

theorem restartContinuous (r : StepRule Before Inv) {s : State} (h : Before s) :
    Inv (restartContinuous s) := by
  unfold Machine.restartContinuous
  split
  · exact r.trigger false s h
  · exact r.start s h

/-! ### The trunk port -/

theorem countVerdict (r : StepRule Before Inv) (v : TrunkVerdict) {s : State} (h : Inv s) :
    Inv (countVerdict v s) := by
  cases v with
  | framing =>
    refine r.count s _ (fun ok => ?_) h
    obtain ⟨-, rest⟩ := ok
    exact ⟨bump_le _, rest⟩
  | check =>
    refine r.count s _ (fun ok => ?_) h
    obtain ⟨framing, -, rest⟩ := ok
    exact ⟨framing, bump_le _, rest⟩
  | ignored => exact h
  | discarded => exact h
  | delivered f => exact h

theorem lineActivity (r : StepRule Before Inv) {s : State} (h : Inv s) : Inv (lineActivity s) := by
  have counted : Inv { s with counters := (Machine.lineActivity s).counters } :=
    r.count s _ (lineActivity_ok s) h
  refine r.quiet counted ?_
  rw [lineActivity_frame]
  exact rfl

theorem loseArbitration (r : StepRule Before Inv) (lineIdle : Bool) {s : State} (h : Before s) :
    Inv (loseArbitration lineIdle s) := by
  have counted := r.count _ (Machine.loseArbitration lineIdle s).counters (fun ok => ?_) (r.loseHead s h)
  · exact r.quiet counted rfl
  · obtain ⟨framing, check, -, rest⟩ := ok
    exact ⟨framing, check, bump_le _, rest⟩

theorem arbitrationLost (r : StepRule Before Inv) (lineIdle : Bool) {s : State} (h : Before s) :
    Inv (arbitrationLost lineIdle s) := by
  unfold Machine.arbitrationLost
  split
  · exact r.start s h
  · exact r.quiet (r.loseArbitration lineIdle h) (answerOver_quiet _)
  · exact r.loseArbitration lineIdle h

theorem frameSent (r : StepRule Before Inv) {s : State} (h : Before s) : Inv (frameSent s) := by
  unfold Machine.frameSent
  split
  · exact r.start s h
  · split
    · exact r.quiet (r.start s h) rfl
    · exact r.start s h
  · split
    · exact r.finishSending _ s h
    · exact r.start s h

theorem startQualified (r : StepRule Before Inv) {s : State} (h : Before s) : Inv (startQualified s) := by
  unfold Machine.startQualified
  split
  · exact r.startHead s h
  · exact r.start s h

/-! ### The row port -/

theorem endGap (r : StepRule Before Inv) {s : State} (h : Before s) : Inv (endGap s) := by
  unfold Machine.endGap
  split
  · next gapRan =>
    have gap : s.rowTx = .gap := by
      simp only [gapOver, Bool.and_eq_true, beq_iff_eq] at gapRan
      exact gapRan.1.1
    exact r.arbitrate _ (r.ready s gap h)
  · exact r.start s h

end StepRule

/-- The frame of an owner on the row is the one frame there. -/
theorem rowFrameOf_eq_some {s : State} {o : RowOwner} {f : RowFrame} :
    rowFrameOf s o = some f ↔ s.rowTx = .onRow f ∧ f.owner = o := by
  unfold rowFrameOf
  split
  · next g row =>
    rw [row]
    by_cases e : g.owner = o
    · rw [if_pos e]
      constructor
      · rintro ⟨⟩
        exact ⟨rfl, e⟩
      · rintro ⟨⟨⟩, -⟩
        rfl
    · rw [if_neg e]
      constructor
      · nofun
      · rintro ⟨⟨⟩, own⟩
        exact absurd own e
  · next none =>
    constructor
    · nofun
    · rintro ⟨row, -⟩
      exact absurd row (none f)

/-- The scan query on the row is the one frame there. -/
theorem scanFrame_eq_some {s : State} {c : ChannelId} {f : RowFrame} :
    scanFrame s = some (c, f) ↔ s.rowTx = .onRow f ∧ f.owner = .scan c := by
  unfold scanFrame
  split
  · next g row =>
    rw [row]
    split
    · next d own =>
      constructor
      · rintro ⟨⟩
        exact ⟨rfl, own⟩
      · rintro ⟨⟨⟩, same⟩
        rw [own] at same
        cases same
        rfl
    · next other =>
      constructor
      · nofun
      · rintro ⟨⟨⟩, own⟩
        exact absurd own (other c)
  · next none =>
    constructor
    · nofun
    · rintro ⟨row, -⟩
      exact absurd row (none f)

@[simp] theorem countOutcome_rowTx (o : WindowOutcome) (s : State) : (countOutcome o s).rowTx = s.rowTx := by
  rw [countOutcome_frame]

@[simp] theorem countOutcome_forward (o : WindowOutcome) (s : State) :
    (countOutcome o s).forward = s.forward := by
  rw [countOutcome_frame]

namespace StepRule

variable {Before Inv : State → Prop}

theorem completeLevel (r : StepRule Before Inv) {s : State} (h : Before s) : Inv (completeLevel s) := by
  unfold Machine.completeLevel
  split
  · next f row =>
    obtain ⟨row, own⟩ := rowFrameOf_eq_some.mp row
    split
    · exact r.finishLevel s f row own h
    · exact r.start s h
  · exact r.start s h

theorem completeForward (r : StepRule Before Inv) {s : State} (h : Before s) : Inv (completeForward s) := by
  unfold Machine.completeForward
  split
  · next f row =>
    obtain ⟨row, own⟩ := rowFrameOf_eq_some.mp row
    split
    · next complete =>
      refine r.popForward s f row own (.inl ?_) h
      simp only [frameCompletes, Bool.and_eq_true, Bool.not_eq_true'] at complete
      exact complete.1
    · exact r.start s h
  · exact r.start s h

theorem closeUntagged (r : StepRule Before Inv) (w : WindowReply) {s : State} (h : Before s) :
    Inv (closeUntagged w s) := by
  unfold Machine.closeUntagged
  split
  · next f e q row forward =>
    obtain ⟨row, own⟩ := rowFrameOf_eq_some.mp row
    split
    · next close =>
      refine r.popForward _ f ((countOutcome_rowTx _ s).trans row) own (.inr ?_)
        (r.countOutcome _ h)
      intro e' q' same
      rw [countOutcome_forward, forward] at same
      cases same
      exact close.2
    · exact r.start s h
  · exact r.start s h

theorem closeDeferredReply (r : StepRule Before Inv) (w : WindowReply) {s : State} (h : Before s) :
    Inv (Machine.closeDeferred w s) := by
  unfold Machine.closeDeferred
  split
  · next f e q row forward =>
    obtain ⟨row, own⟩ := rowFrameOf_eq_some.mp row
    split
    · exact r.closeDeferred _ f e q _ ((countOutcome_rowTx _ s).trans row) own
        ((countOutcome_forward _ s).trans forward) (r.countOutcome _ h)
    · exact r.start s h
  · exact r.start s h

theorem closeScanQuery (r : StepRule Before Inv) (w : WindowReply) {s : State} (h : Before s) :
    Inv (Machine.closeScan w s) := by
  unfold Machine.closeScan
  split
  · next c f row =>
    obtain ⟨row, own⟩ := scanFrame_eq_some.mp row
    split
    · exact r.closeScan _ f c _ ((countOutcome_rowTx _ s).trans row) own (r.countOutcome _ h)
    · exact r.start s h
  · exact r.start s h

theorem closeVerifyQuery (r : StepRule Before Inv) (w : WindowReply) {s : State} (h : Before s) :
    Inv (Machine.closeVerify w s) := by
  unfold Machine.closeVerify
  split
  · next f row =>
    obtain ⟨row, own⟩ := rowFrameOf_eq_some.mp row
    split
    · exact r.closeVerify _ f _ ((countOutcome_rowTx _ s).trans row) own (r.countOutcome _ h)
    · exact r.start s h
  · exact r.start s h

theorem closeAlignmentRequest (r : StepRule Before Inv) (w : WindowReply) {s : State} (h : Before s) :
    Inv (Machine.closeAlignment w s) := by
  unfold Machine.closeAlignment
  split
  · next f row =>
    obtain ⟨row, own⟩ := rowFrameOf_eq_some.mp row
    split
    · exact r.closeAlignment _ f _ ((countOutcome_rowTx _ s).trans row) own (r.countOutcome _ h)
    · exact r.start s h
  · exact r.start s h

end StepRule

/-- READY is the one state of the transmitter that READY's constructor stands for. -/
theorem transmitter_eq_ready {s : State} : s.transmitter = .ready ↔ s.rowTx = .ready := by
  unfold State.transmitter
  split
  · next row => simp [row]
  · next row => simp [row]
  · next row => simp [row]
  · next f row =>
    rw [row]
    split <;> simp

namespace StepRule

variable {Before Inv : State → Prop}

theorem strayBegins (r : StepRule Before Inv) {s : State} (h : Before s) : Inv (strayBegins s) := by
  unfold Machine.strayBegins
  split
  · exact r.quiet (r.start s h) rfl
  · exact r.start s h
  · exact r.quiet (r.start s h) rfl
  · exact r.quiet (r.start s h) rfl
  · next ready => exact r.quiet (r.leaveReady s (transmitter_eq_ready.mp ready) h) rfl

theorem countStray (r : StepRule Before Inv) {s : State} (h : Inv s) : Inv (countStray s) := by
  have counted := r.count s (Machine.countStray s).counters (fun ok => ?_) h
  · exact r.quiet counted rfl
  · obtain ⟨framing, check, arbitration, -, rest⟩ := ok
    exact ⟨framing, check, arbitration, bump_le _, rest⟩

theorem strayEnds (r : StepRule Before Inv) {s : State} (h : Before s) : Inv (strayEnds s) := by
  unfold Machine.strayEnds
  split
  · exact r.quiet (r.start s h) rfl
  · split
    · exact r.countStray (r.start s h)
    · exact r.start s h
  · exact r.countStray (r.start s h)
  · exact r.countStray (r.start s h)
  · next ready => exact r.countStray (r.leaveReady s (transmitter_eq_ready.mp ready) h)

/-! ### Every command -/

/-- Every command completes with a next state, and keeps what each of its parts keeps. -/
theorem exec (r : StepRule Before Inv) (c : Instr) {s : State} (h : Before s) :
    ∃ t, exec c s = .next t ∧ Inv t := by
  cases c with
  | powerOn n straps above => exact ⟨_, rfl, r.powerOn straps above s h⟩
  | rowSenseChange n above =>
    exact ⟨_, rfl, r.quiet (r.start _ (r.passTime n h)) (crossThreshold_quiet above _)⟩
  | rowPowerAbsent n =>
    refine ⟨_, rfl, ?_⟩
    unfold losePower
    split
    · exact r.rowPowerLost _ (r.passTime n h)
    · exact r.start _ (r.passTime n h)
  | rowPowerPresent n =>
    refine ⟨_, rfl, ?_⟩
    unfold regainPower
    split
    · next due =>
      refine r.rowPowerReturned _ ?_ (r.passTime n h)
      simp only [presentDue, Bool.and_eq_true, Bool.not_eq_true'] at due
      exact due.1.1
    · exact r.start _ (r.passTime n h)
  | trunkFrameError n rx => exact ⟨_, rfl, r.countVerdict _ (r.start _ (r.trunkFrameEnd n h))⟩
  | trunkFrameIgnored n rx => exact ⟨_, rfl, r.start _ (r.trunkFrameEnd n h)⟩
  | trunkFrameDiscarded n rx => exact ⟨_, rfl, r.start _ (r.trunkFrameEnd n h)⟩
  | trunkLineActivity n => exact ⟨_, rfl, r.lineActivity (r.start _ (r.passTime n h))⟩
  | trunkAnswerStart n => exact ⟨_, rfl, r.quiet (r.start _ (r.passTime n h)) (startAnswer_quiet _)⟩
  | trunkTransmitStart n => exact ⟨_, rfl, r.startQualified (r.passTime n h)⟩
  | arbitrationLoss n lineIdle => exact ⟨_, rfl, r.arbitrationLost lineIdle (r.passTime n h)⟩
  | trunkFrameSent n => exact ⟨_, rfl, r.frameSent (r.passTime n h)⟩
  | setLevelUnit n dest unit level fade extra =>
    exact ⟨_, rfl, r.arbitrate _ (r.setLevelUnit unit level fade extra (r.start _ (r.trunkFrameEnd n h)))⟩
  | setLevelGroup n dest group level fade extra =>
    exact ⟨_, rfl, r.arbitrate _ (r.setLevelGroup group level fade extra (r.start _ (r.trunkFrameEnd n h)))⟩
  | setLevelBroadcast n dest level fade extra =>
    exact ⟨_, rfl, r.arbitrate _ (r.setLevelAll level fade extra (r.start _ (r.trunkFrameEnd n h)))⟩
  | deviceConfigSetGroups n dest target mask extra =>
    exact ⟨_, rfl, r.arbitrate _ (r.takeConfig dest target _ (r.trunkFrameEnd n h))⟩
  | deviceConfig n dest target subKind extra =>
    exact ⟨_, rfl, r.arbitrate _ (r.takeConfig dest target _ (r.trunkFrameEnd n h))⟩
  | queryTargetLevel n unit extra =>
    exact ⟨_, rfl, r.arbitrate _ (r.takeQuery unit 1 extra (r.trunkFrameEnd n h))⟩
  | queryLightReading n unit extra =>
    exact ⟨_, rfl, r.arbitrate _ (r.takeQuery unit 8 extra (r.trunkFrameEnd n h))⟩
  | queryOtherItem n unit item extra =>
    exact ⟨_, rfl, r.arbitrate _ (r.takeQuery unit item extra (r.trunkFrameEnd n h))⟩
  | readEntryPart0 n req table index part =>
    have ended := r.start _ (r.trunkFrameEnd n h)
    exact ⟨_, rfl, r.answerRead req ended (r.readPart0 _ _ _ ended)⟩
  | readEntryPart1 n req table index =>
    have ended := r.start _ (r.trunkFrameEnd n h)
    exact ⟨_, rfl, r.answerRead req ended (readPart1 ended)⟩
  | writeRowMapEntry n req index entry =>
    have ended := r.trunkFrameEnd n h
    exact ⟨_, rfl, r.arbitrate _ (r.respond req
      (r.writeTable (fun a v parsed => r.rowWrite a v _ (parseRow_inRange parsed) ended) ended))⟩
  | writeZoneConfig n req index entry =>
    have ended := r.trunkFrameEnd n h
    exact ⟨_, rfl, r.arbitrate _ (r.respond req
      (r.writeTable (fun z v parsed => r.zoneWrite z v _ (parseZone_inRange parsed) ended) ended))⟩
  | writeChannelConfig n req index entry =>
    have ended := r.trunkFrameEnd n h
    exact ⟨_, rfl, r.arbitrate _ (r.respond req
      (r.writeTable (fun c v parsed => r.channelWrite c v _ (parseChannel_inRange parsed) ended) ended))⟩
  | writeTrunkGroupMap n req index entry =>
    have ended := r.trunkFrameEnd n h
    exact ⟨_, rfl, r.respond req (r.writeTable (fun g v _ => r.groupWrite g v _ ended) ended)⟩
  | writeEventRoute n req index entry =>
    have ended := r.trunkFrameEnd n h
    exact ⟨_, rfl, r.respond req
      (r.writeTable (fun k v parsed => r.routeWrite k v _ (parseRoute_inRange parsed) ended) ended)⟩
  | writeSettings n req index entry =>
    have ended := r.trunkFrameEnd n h
    exact ⟨_, rfl, r.arbitrate _ (r.respond req
      (r.writeTable (fun k v parsed => r.settingsWrite k v _ (parseSettings_inRange parsed) ended) ended))⟩
  | writeEntryReadOnly n req table index =>
    exact ⟨_, rfl, r.respond req (writeReadOnly (r.start _ (r.trunkFrameEnd n h)))⟩
  | loadCoefficients n req zone channelByte values =>
    exact ⟨_, rfl, r.respond req (r.loadCoefficients zone channelByte values (r.trunkFrameEnd n h))⟩
  | setZoneModeHold n req zone mode =>
    exact ⟨_, rfl, r.arbitrate _ (r.respond req
      (r.setZoneMode (.inl rfl) 2 zone mode (r.start _ (r.trunkFrameEnd n h))))⟩
  | setZoneModeManual n req zone mode =>
    exact ⟨_, rfl, r.arbitrate _ (r.respond req
      (r.setZoneMode (.inr (.inl rfl)) 3 zone mode (r.start _ (r.trunkFrameEnd n h))))⟩
  | setZoneModeTrack n req zone mode =>
    exact ⟨_, rfl, r.arbitrate _ (r.respond req
      (r.setZoneMode (.inr (.inr rfl)) 1 zone mode (r.start _ (r.trunkFrameEnd n h))))⟩
  | triggerScan n req =>
    exact ⟨_, rfl, r.arbitrate _ (r.respond req (r.triggerScan (r.trunkFrameEnd n h)))⟩
  | commit n req => exact ⟨_, rfl, r.respond req (r.commit (r.start _ (r.trunkFrameEnd n h)))⟩
  | restart n req =>
    exact ⟨_, rfl, r.respond req (r.scheduleRestart req.dest (r.start _ (r.trunkFrameEnd n h)))⟩
  | readStatusPart0 n req part =>
    have ended := r.start _ (r.trunkFrameEnd n h)
    exact ⟨_, rfl, r.answerRead req ended (r.readStatus0 _ ended)⟩
  | readStatusPart1 n req =>
    have ended := r.start _ (r.trunkFrameEnd n h)
    exact ⟨_, rfl, r.answerRead req ended (r.readStatus1 ended)⟩
  | unknownOperation n req op =>
    exact ⟨_, rfl, r.respond (p := (.plain .unknownOperation, _)) req (r.start _ (r.trunkFrameEnd n h))⟩
  | warmRestart n =>
    refine ⟨_, rfl, ?_⟩
    unfold restartIfDue
    split
    · exact r.warmRestart _ (r.passTime n h)
    · exact r.start _ (r.passTime n h)
  | storeWriteEnd n found => exact ⟨_, rfl, r.arbitrate _ (r.endWriteIfOver found (r.passTime n h))⟩
  | rowGapEnd n => exact ⟨_, rfl, r.endGap (r.passTime n h)⟩
  | levelFrameComplete n => exact ⟨_, rfl, r.completeLevel (r.passTime n h)⟩
  | forwardFrameComplete n => exact ⟨_, rfl, r.completeForward (r.passTime n h)⟩
  | untaggedWindowClose n reply => exact ⟨_, rfl, r.closeUntagged reply (r.passTime n h)⟩
  | rowStrayFrame n ended =>
    refine ⟨_, rfl, ?_⟩
    split
    · exact r.strayEnds (r.passTime n h)
    · exact r.strayBegins (r.passTime n h)
  | scanQueryOutcome n reply => exact ⟨_, rfl, r.closeScanQuery reply (r.passTime n h)⟩
  | periodicTick n => exact ⟨_, rfl, r.arbitrate _ (r.tickIfDue (r.passTime n h))⟩
  | continuousRestart n => exact ⟨_, rfl, r.arbitrate _ (r.restartContinuous (r.passTime n h))⟩
  | deferredQueryOutcome n reply => exact ⟨_, rfl, r.closeDeferredReply reply (r.passTime n h)⟩
  | deferralDeadline n tag => exact ⟨_, rfl, r.arbitrate _ (r.expire tag _ (r.passTime n h))⟩
  | verifyIntervalExpiry n => exact ⟨_, rfl, r.arbitrate _ (r.start _ (r.passTime n h))⟩
  | verifyOutcome n reply => exact ⟨_, rfl, r.closeVerifyQuery reply (r.passTime n h)⟩
  | alignmentOutcome n reply => exact ⟨_, rfl, r.closeAlignmentRequest reply (r.passTime n h)⟩
  | alignmentHoldExpiry n => exact ⟨_, rfl, r.arbitrate _ (r.start _ (r.passTime n h))⟩
  | intervalSaturation n => exact ⟨_, rfl, r.saturate _ (r.passTime n h)⟩

/-- Every step keeps what every command keeps, if the queue of waiting commands does not matter. -/
theorem step (r : StepRule Before Inv) (queue : ∀ s q, Before s → Before { s with pending := q })
    {s t : State} (h : Before s) (next : step s = .next t) : Inv t := by
  unfold Machine.step at next
  split at next
  · cases next
    exact r.start _ (r.passTime 1000 h)
  · next c rest _ =>
    obtain ⟨u, run, kept⟩ := r.exec c (queue s rest h)
    rw [run] at next
    cases next
    exact kept

end StepRule

/-- Settles O1: a step with a command at the front of its queue is that command's arm. -/
theorem stepRunsTheFrontCommand : Obligations.StepRunsTheFrontCommand := by
  intro c rest s front
  simp only [step, front]

end Sys2Proof.Machine

namespace Sys2Proof.Machine

/-- Events raised while a scan is in progress keep what notices and the marks of a pending rescan keep (R54, R171). -/
theorem foldl_raiseInScan_keeps {Inv : State → Prop}
    (rescan : ∀ s pending urgent, Inv s →
      Inv { s with scan := { s.scan with pending := pending, pendingUrgent := urgent } })
    (notice : ∀ e s, Inv s → Inv (noticeOf e s)) (es : List Event) {s : State} (h : Inv s) :
    Inv (es.foldl raiseInScan s) := by
  induction es generalizing s with
  | nil => exact h
  | cons e es ih =>
    refine ih ?_
    unfold raiseInScan
    split
    · unfold rescanInScan
      split
      · exact rescan _ _ _ (notice e s h)
      · exact notice e s h
    · exact notice e s h

/-! ## A predicate that scans, passes and events keep

`Inv` is the invariant; `Free` is what holds beside it while the scan controller is not SUSPENDED and
has no query on the row, so that a scan can start or complete. -/

/-- Each part of a scan's start, completion and compute pass keeps the invariant. -/
structure ScanRule (Inv Free : State → Prop) : Prop where
  weaken : ∀ {s}, Free s → Inv s
  free : ∀ {s}, Inv s → s.scan.onRow = false → s.scan.state ≠ .suspended → Free s
  idle : ∀ {s}, Inv s → s.scan.state = .idle → Free s
  marks : ∀ s next pending urgent tick empty, Inv s → Inv { s with scan := { s.scan with
    next := next, pending := pending, pendingUrgent := urgent, tickTaken := tick, emptyDone := empty } }
  marksFree : ∀ s next pending urgent tick empty, Free s → Free { s with scan := { s.scan with
    next := next, pending := pending, pendingUrgent := urgent, tickTaken := tick, emptyDone := empty } }
  opened : ∀ s c turn, c.onRow = false → c.state = .idle ∨ c.state = .scanning → Free s →
    Free { s with scan := c, lowerTurn := turn }
  zones : ∀ s, Free s → Free { s with zones := Vector.ofFn (passZone s) }
  recompute : ∀ s a, Free s → Free (recompute s a)
  notice : ∀ e s, Inv s → Inv (noticeOf e s)
  noticeFree : ∀ e s, Free s → Free (noticeOf e s)

namespace ScanRule

variable {Inv Free : State → Prop}

/-- What holds while a scan is free to start is itself kept. -/
theorem restrict (r : ScanRule Inv Free) : ScanRule Free Free where
  weaken h := h
  free h _ _ := h
  idle h _ := h
  marks := r.marksFree
  marksFree := r.marksFree
  opened := r.opened
  zones := r.zones
  recompute := r.recompute
  notice := r.noticeFree
  noticeFree := r.noticeFree

theorem setPending (r : ScanRule Inv Free) (urgent : Bool) {s : State} (h : Inv s) :
    Inv (setPending urgent s) := r.marks s _ _ _ _ _ h

theorem clearPending (r : ScanRule Inv Free) {s : State} (h : Inv s) : Inv (clearPending s) :=
  r.marks s _ _ _ _ _ h

theorem findNext (r : ScanRule Inv Free) {s : State} (h : Inv s) : Inv (Machine.findNext s) :=
  r.marks s _ _ _ _ _ h

theorem foldl_raiseInScan (r : ScanRule Inv Free) (es : List Event) {s : State} (h : Inv s) :
    Inv (es.foldl raiseInScan s) :=
  foldl_raiseInScan_keeps (fun s _ _ k => r.marks s _ _ _ _ _ k) r.notice es h

theorem computePass (r : ScanRule Inv Free) {s : State} (h : Free s) : Free (computePass s) := by
  have updated : ∀ (as : List Addr) (t : State), Free t → Free (as.foldl Machine.recompute t) := by
    intro as
    induction as with
    | nil => exact fun _ k => k
    | cons a as ih => exact fun t k => ih _ (r.recompute t a k)
  exact r.restrict.foldl_raiseInScan _ (updated _ _ (r.zones s h))

theorem completeScan (r : ScanRule Inv Free) {s : State} (h : Free s) : Free (completeScan s) := by
  have ended : Free (endScan .idle (Machine.computePass s)) :=
    r.opened _ _ _ rfl (.inl rfl) (r.computePass h)
  exact r.marksFree _ _ _ _ _ _ ended

theorem openScan (r : ScanRule Inv Free) (urgent : Bool) {s : State} (h : Free s) :
    Free (openScan urgent s) := r.opened s _ _ rfl (.inr rfl) h

theorem nextScan (r : ScanRule Inv Free) {start : Bool → State → State}
    (starts : ∀ urgent s, Free s → Free (start urgent s)) {s : State} (h : Free s) :
    Free (nextScan start s) := by
  unfold Machine.nextScan
  split
  · exact starts _ _ (r.restrict.clearPending h)
  · split
    · exact starts _ _ h
    · exact h

theorem startScan (r : ScanRule Inv Free) (urgent : Bool) {s : State} (h : Free s) :
    Free (startScan urgent s) := by
  have chain : ∀ fuel urgent s, Free s → Free (startScanFuel fuel urgent s) := by
    intro fuel
    induction fuel with
    | zero => exact fun _ _ k => k
    | succ n ih =>
      intro urgent s k
      unfold startScanFuel
      dsimp only
      split
      · exact r.openScan urgent k
      · exact r.nextScan ih (r.completeScan (r.openScan urgent k))
  exact chain _ _ _ h

theorem finishScan (r : ScanRule Inv Free) {s : State} (h : Free s) : Free (finishScan s) :=
  r.nextScan (fun _ _ => r.startScan _) (r.completeScan h)

theorem trigger (r : ScanRule Inv Free) (urgent : Bool) {s : State} (h : Inv s) :
    Inv (trigger urgent s) := by
  unfold Machine.trigger
  split
  · exact h
  · split
    · next idle => exact r.weaken (r.startScan urgent (r.idle h idle))
    · exact r.setPending urgent h
    · exact h
    · exact h

theorem raise (r : ScanRule Inv Free) (e : Event) {s : State} (h : Inv s) : Inv (raise e s) := by
  unfold Machine.raise
  split
  · exact r.trigger true (r.notice e s h)
  · exact r.notice e s h

theorem takeTick (r : ScanRule Inv Free) {s : State} (h : Inv s) : Inv (takeTick s) :=
  r.trigger false (r.marks s _ _ _ _ _ h)

theorem tickIfDue (r : ScanRule Inv Free) {s : State} (h : Inv s) : Inv (tickIfDue s) := by
  unfold Machine.tickIfDue
  split
  · exact r.takeTick h
  · exact h

theorem resumeScan (r : ScanRule Inv Free) {s : State} (h : Inv (endScan .idle s)) : Inv (resumeScan s) :=
  r.trigger false h

theorem reviseScan (r : ScanRule Inv Free) {s : State} (h : Inv s) : Inv (reviseScan s) := by
  unfold Machine.reviseScan
  dsimp only
  split
  · next now =>
    have found : Free (Machine.findNext s) :=
      r.restrict.findNext (r.free h now.2 (by rw [now.1]; exact nofun))
    split
    · exact r.weaken found
    · exact r.weaken (r.finishScan found)
  · exact h

theorem modeOff (r : ScanRule Inv Free) {s : State}
    (stops : s.scan.state = .scanning → s.scan.onRow = true →
      Inv { s with scan := { s.scan with state := .stopping } }) (h : Inv s) : Inv (modeOff s) := by
  unfold Machine.modeOff
  split
  · next now =>
    split
    · next row => exact stops now row
    · next free =>
      have ended : Free (endScan .idle s) :=
        r.opened s _ _ rfl (.inl rfl) (r.free h (by simpa using free) (by rw [now]; exact nofun))
      exact r.clearPending (r.weaken ended)
  · exact r.clearPending h
  · exact h
  · exact h

theorem modeOn (r : ScanRule Inv Free) {s : State} (h : Inv s) : Inv (modeOn s) := by
  unfold Machine.modeOn
  split
  · next idle => exact r.weaken (r.startScan false (r.idle h idle))
  · exact r.setPending false h
  · exact h
  · exact h

/-- The effects of a change of scan mode (R55): what is left to show is that STOPPING may be entered. -/
theorem modeChanged (r : ScanRule Inv Free) (old : ScanMode) {s : State}
    (stops : s.scan.state = .scanning → s.scan.onRow = true →
      Inv { s with scan := { s.scan with state := .stopping } }) (h : Inv s) :
    Inv (modeChanged old s) := by
  unfold Machine.modeChanged
  split
  · exact h
  · exact r.modeOn h
  · exact r.modeOn h
  · exact r.modeOff stops h
  · exact h
  · exact r.trigger false h
  · exact r.modeOff stops h
  · exact h
  · exact h

theorem applySettingsWrite (r : ScanRule Inv Free) (k : Fin 1) (t : Settings) {s : State}
    (stops : s.scan.state = .scanning → s.scan.onRow = true →
      Inv { s with
        tables := { s.tables with settings := t }, scan := { s.scan with state := .stopping } })
    (put : Inv { s with tables := { s.tables with settings := t } }) :
    Inv (applySettingsWrite k t s) := by
  unfold Machine.applySettingsWrite
  dsimp only
  have changed := r.modeChanged s.settings.mode stops put
  split
  · exact changed
  · exact r.tickIfDue changed

/-! ### The end of a scan query (R49, R55) -/

theorem recordOutcome (r : ScanRule Inv Free) (c : ChannelId) (o : ChannelOutcome) {s : State}
    (put : Inv (s.setChannel c (channelAfter s o (s.channel c)))) : Inv (recordOutcome c o s) :=
  r.foldl_raiseInScan _ put

theorem advanceScan (r : ScanRule Inv Free) {s : State}
    (h : Free { s with scan := { s.scan with onRow := false, disregard := false } }) :
    Free (advanceScan s) := by
  unfold Machine.advanceScan
  dsimp only
  have found := r.restrict.findNext h
  split
  · exact found
  · exact r.finishScan found

theorem leaveStopping (r : ScanRule Inv Free) {s : State} (h : Free (endScan .idle s)) :
    Free (leaveStopping s) := by
  unfold Machine.leaveStopping
  dsimp only
  have cleared : Free (Machine.clearPending (endScan .idle s)) := r.restrict.clearPending h
  split
  · exact r.startScan false cleared
  · exact cleared

end ScanRule

/-- An invariant that does not read the scan controller. -/
theorem ScanRule.ofBlind {Inv : State → Prop}
    (scan : ∀ s c turn, Inv s → Inv { s with scan := c, lowerTurn := turn })
    (zones : ∀ s, Inv s → Inv { s with zones := Vector.ofFn (passZone s) })
    (recompute : ∀ s a, Inv s → Inv (Machine.recompute s a))
    (notice : ∀ e s, Inv s → Inv (noticeOf e s)) : ScanRule Inv Inv where
  weaken h := h
  free h _ _ := h
  idle h _ := h
  marks s _ _ _ _ _ h := scan s _ s.lowerTurn h
  marksFree s _ _ _ _ _ h := scan s _ s.lowerTurn h
  opened s c turn _ _ h := scan s c turn h
  zones := zones
  recompute := recompute
  notice := notice
  noticeFree := notice

/-- The end of a scan query keeps an invariant that does not read the scan controller. -/
theorem ScanRule.scanOutcome_of_blind {Inv : State → Prop} (r : ScanRule Inv Inv)
    (scan : ∀ s c turn, Inv s → Inv { s with scan := c, lowerTurn := turn })
    (c : ChannelId) (o : ChannelOutcome) {s : State}
    (put : Inv (s.setChannel c (channelAfter s o (s.channel c)))) (h : Inv s) :
    Inv (scanOutcome c o s) := by
  unfold scanOutcome
  dsimp only
  have recorded : Inv (if s.scan.disregard = true then s else Machine.recordOutcome c o s) := by
    split
    · exact h
    · exact r.recordOutcome c o put
  split
  · exact r.advanceScan (scan _ _ _ recorded)
  · exact r.leaveStopping (scan _ _ _ recorded)
  · exact recorded
  · exact recorded

/-! ## A predicate that verification outcomes keep -/

/-- The counts and the health of an entry after a verification outcome: counts up to 3, or as they were. -/
def Lum.Judged (l m : Lum) : Prop :=
  m = { l with health := m.health, mismatches := m.mismatches, misses := m.misses } ∧
  (m.mismatches ≤ 3 ∨ m.mismatches = l.mismatches) ∧ (m.misses ≤ 3 ∨ m.misses = l.misses)

/-- An outcome that applies is one for a luminaire in SYNCED (R147). -/
theorem verifyApplies_synced {s : State} {v : VerifyRecord} (applies : verifyApplies s v = true) :
    s.isLum v.addr = true ∧ (s.lum v.addr).shadow = .synced := by
  simp only [verifyApplies, State.isSynced, Bool.and_eq_true, beq_iff_eq] at applies
  exact applies.1.1

namespace ScanRule

variable {Inv Free : State → Prop}

/-- A verification outcome keeps an invariant that changes of counts and health and a reported mismatch keep (R147 to R149). -/
theorem verifyOutcome (r : ScanRule Inv Free)
    (judged : ∀ s a l, (s.lum a).Judged l → Inv s → Inv (s.setLum a l))
    (report : ∀ s a, s.isLum a = true → (s.lum a).shadow = .synced → Inv s → Inv (reportMismatch a s))
    (o : WindowOutcome) {s : State} (dropped : Inv (dropVerifyRecord s))
    (h : s.verify.record = none → Inv s) : Inv (verifyOutcome o s) := by
  have faulted : ∀ {u : State} (v : VerifyRecord) (cause : FaultCause) (count : Nat), Inv u →
      Inv (judgeFault v cause count u) := by
    intro u v cause count k
    unfold judgeFault
    split
    · exact r.raise _ (judged _ _ _ ⟨rfl, .inr rfl, .inr rfl⟩ k)
    · exact k
  have missed : ∀ {u : State} (v : VerifyRecord), Inv u → Inv (verifyMiss v u) :=
    fun v k => faulted v _ _ (judged _ _ _ ⟨rfl, .inr rfl, .inl (Nat.min_le_left _ _)⟩ k)
  have confirmed : ∀ {u : State} (v : VerifyRecord), Inv u → Inv (verifyConfirmed v u) := by
    intro u v k
    unfold verifyConfirmed
    dsimp only
    split
    · exact r.raise _ (judged _ _ _ ⟨rfl, .inl (Nat.zero_le _), .inl (Nat.zero_le _)⟩ k)
    · exact judged _ _ _ ⟨rfl, .inl (Nat.zero_le _), .inl (Nat.zero_le _)⟩ k
  have mismatched : ∀ {u : State} (v : VerifyRecord), verifyApplies u v = true → Inv u →
      Inv (verifyMismatch v u) := by
    intro u v applies k
    obtain ⟨luminaire, synced⟩ := verifyApplies_synced applies
    refine faulted v _ _ (report _ _ luminaire ?_
      (judged _ _ _ ⟨rfl, .inl (Nat.min_le_left _ _), .inl (Nat.zero_le _)⟩ k))
    rw [lum_setLum_self]
    exact synced
  unfold Machine.verifyOutcome
  split
  · next none => exact h none
  · next v _ =>
    dsimp only
    split
    · next applies =>
      unfold applyVerify
      split
      · split
        · exact confirmed v dropped
        · exact mismatched v applies dropped
      · exact dropped
      · exact missed v dropped
      · exact missed v dropped
      · exact missed v dropped
    · exact dropped

end ScanRule

/-! ## Frames of the commands' larger parts -/

/-- What a change of configuration can touch: tables, zones, entries, pending list and verification records. -/
def ConfigFrame (s t : State) : Prop :=
  t = { s with
    tables := t.tables, zones := t.zones, lums := t.lums, pendingList := t.pendingList
    verify := t.verify }

theorem ConfigFrame.trans {s t u : State} (h : ConfigFrame s t) (k : ConfigFrame t u) :
    ConfigFrame s u := by
  unfold ConfigFrame at h k ⊢
  rw [k, h]

theorem RowMapFrame.config {s t : State} (h : RowMapFrame s t) : ConfigFrame s t := by
  unfold RowMapFrame at h
  unfold ConfigFrame
  rw [h]

theorem applyRowWrite_frame (a : Addr) (r : RowConfig) (s : State) :
    ConfigFrame s (applyRowWrite a r s) := by
  refine ConfigFrame.trans (t := s.setRow a r) rfl ?_
  unfold applyRowWrite
  dsimp only
  split
  · unfold revisedLuminaire
    dsimp only
    have aligned : RowMapFrame (s.setRow a r) (if (s.row a).zone = r.zone then s.setRow a r
        else (s.setRow a r).setLum a { (s.setRow a r).lum a with aligned := false }) := by
      split <;> exact rfl
    split
    · exact aligned.config
    · exact (aligned.trans (recompute_frame _ a)).config
  · unfold disregardAlignment
    split
    · split <;> exact rfl
    · exact rfl
  · unfold newLuminaire
    dsimp only
    split <;> exact rfl
  · exact rfl

theorem setZone_recomputeZone_frame (z : ZoneId) (v : ZoneStatus) (s : State) :
    ConfigFrame s (recomputeZone z (s.setZone z v)) :=
  ConfigFrame.trans (t := s.setZone z v) rfl (recomputeZone_frame z _).config

theorem applyZoneWrite_frame (z : ZoneId) (c : ZoneConfig) (s : State) :
    ConfigFrame s (applyZoneWrite z c s) := by
  refine ConfigFrame.trans (t := s.setZoneConfig z c) rfl ?_
  unfold applyZoneWrite
  dsimp only
  split
  · exact setZone_recomputeZone_frame z _ _
  · exact setZone_recomputeZone_frame z _ _
  · exact rfl
  · exact rfl

theorem changeMode_configFrame (change : ZoneStatus → ZoneStatus) (s : State) (z : ZoneId) :
    ConfigFrame s (changeMode change s z) := by
  unfold changeMode
  split
  · exact rfl
  · exact setZone_recomputeZone_frame z _ s

theorem alignOutcome_frame (o : WindowOutcome) (s : State) : ConfigFrame s (alignOutcome o s) := by
  unfold alignOutcome
  split
  · exact rfl
  · dsimp only
    split
    · split <;> exact rfl
    · exact rfl

theorem verifyLost_frame (s : State) : ConfigFrame s (verifyLost s) := rfl

/-- What the relay can touch: the forward queue, the tags, the answer, the counters and the upstream queue. -/
def RelayFrame (s t : State) : Prop :=
  t = { s with
    forward := t.forward, lastTag := t.lastTag, tagsInUse := t.tagsInUse, answer := t.answer
    counters := t.counters, upstream := t.upstream
    noticesLost := t.noticesLost, lostSinceStart := t.lostSinceStart }

theorem RelayFrame.trans {s t u : State} (h : RelayFrame s t) (k : RelayFrame t u) : RelayFrame s u := by
  unfold RelayFrame at h k ⊢
  rw [k, h]

theorem UpstreamFrame.relay {s t : State} (h : UpstreamFrame s t) : RelayFrame s t := by
  unfold UpstreamFrame at h
  unfold RelayFrame
  rw [h]

theorem forwardUntagged_frame (f : Frame) (s : State) : RelayFrame s (forwardUntagged f s) := by
  unfold forwardUntagged
  split <;> exact rfl

theorem defer_frame (f : Frame) (s : State) : RelayFrame s (defer f s) := by
  unfold defer
  dsimp only
  split
  · exact rfl
  · split <;> exact rfl

theorem popForward_frame (s : State) : RelayFrame s (popForward s) := rfl

theorem expire_frame (t : Tag) (s : State) : RelayFrame s (expire t s) := by
  unfold expire
  split
  · exact RelayFrame.trans (t := { s with forward := s.forward.eraseP (FwdEntry.expired s.clock t) }) rfl
      (endTagged_frame _ _ _ _ _).relay
  · exact rfl

theorem flushEntry_frame (s : State) (e : FwdEntry) : RelayFrame s (flushEntry s e) := by
  unfold flushEntry
  split
  · exact (endTagged_frame _ _ _ _ _).relay
  · exact rfl

theorem flushForward_frame (s : State) : RelayFrame s (flushForward s) := by
  have flushed : ∀ (es : List FwdEntry) (t : State), RelayFrame t (es.foldl flushEntry t) := by
    intro es
    induction es with
    | nil => exact fun _ => rfl
    | cons e es ih => exact fun t => (flushEntry_frame t e).trans (ih _)
  exact RelayFrame.trans (t := { s with forward := [] }) rfl (flushed _ _)

/-- What a channel write, a settings write and the outcomes of queries can touch beside what an event can. -/
def BlockFrame (s t : State) : Prop :=
  t = { s with
    scan := t.scan, lowerTurn := t.lowerTurn, zones := t.zones, lums := t.lums
    pendingList := t.pendingList, upstream := t.upstream
    noticesLost := t.noticesLost, lostSinceStart := t.lostSinceStart
    tables := t.tables, channels := t.channels, verify := t.verify }

theorem BlockFrame.trans {s t u : State} (h : BlockFrame s t) (k : BlockFrame t u) : BlockFrame s u := by
  unfold BlockFrame at h k ⊢
  rw [k, h]

theorem EventFrame.block {s t : State} (h : EventFrame s t) : BlockFrame s t := by
  unfold EventFrame at h
  unfold BlockFrame
  rw [h]

theorem RowMapFrame.block {s t : State} (h : RowMapFrame s t) : BlockFrame s t := h.event.block

theorem applyChannelWrite_frame (c : ChannelId) (v : ChannelConfig) (s : State) :
    BlockFrame s (applyChannelWrite c v s) := by
  unfold applyChannelWrite
  dsimp only
  split
  · exact rfl
  · refine BlockFrame.trans (t := disregardQuery c ((s.setChannelConfig c v).setChannel c .initial)) ?_
      (reviseScan_frame _).block
    unfold disregardQuery
    split <;> exact rfl

theorem modeChanged_frame (old : ScanMode) (s : State) : EventFrame s (modeChanged old s) := by
  have off : EventFrame s (modeOff s) := by
    unfold modeOff
    split
    · split <;> exact rfl
    · exact rfl
    · exact rfl
    · exact rfl
  have on : EventFrame s (modeOn s) := by
    unfold modeOn
    split
    · exact startScan_frame _ s
    · exact rfl
    · exact rfl
    · exact rfl
  unfold modeChanged
  split
  · exact .refl s
  · exact on
  · exact on
  · exact off
  · exact .refl s
  · exact trigger_frame _ s
  · exact off
  · exact .refl s
  · exact .refl s

theorem takeTick_frame (s : State) : EventFrame s (takeTick s) :=
  EventFrame.trans (t := { s with scan := { s.scan with tickTaken := true } }) rfl (trigger_frame _ _)

theorem applySettingsWrite_frame (k : Fin 1) (t : Settings) (s : State) :
    BlockFrame s (applySettingsWrite k t s) := by
  unfold applySettingsWrite
  dsimp only
  have changed := (modeChanged_frame s.settings.mode { s with tables := { s.tables with settings := t } })
  refine BlockFrame.trans (t := { s with tables := { s.tables with settings := t } }) rfl ?_
  split
  · exact changed.block
  · exact (changed.trans (tickIfDue_frame _)).block

theorem recordOutcome_frame (c : ChannelId) (o : ChannelOutcome) (s : State) :
    BlockFrame s (recordOutcome c o s) :=
  BlockFrame.trans (t := s.setChannel c (channelAfter s o (s.channel c))) rfl
    (EventFrame.foldl raiseInScan_frame _ _).block

theorem scanOutcome_frame (c : ChannelId) (o : ChannelOutcome) (s : State) :
    BlockFrame s (scanOutcome c o s) := by
  unfold scanOutcome
  dsimp only
  have recorded : BlockFrame s (if s.scan.disregard = true then s else recordOutcome c o s) := by
    split
    · exact rfl
    · exact recordOutcome_frame c o s
  split
  · exact recorded.trans (advanceScan_frame _).block
  · exact recorded.trans (leaveStopping_frame _).block
  · exact recorded
  · exact recorded

theorem judgeFault_frame (v : VerifyRecord) (cause : FaultCause) (count : Nat) (s : State) :
    EventFrame s (judgeFault v cause count s) := by
  unfold judgeFault
  split
  · exact EventFrame.trans (setLum_frame s v.addr _).event (raise_frame _ _)
  · exact .refl s

theorem applyVerify_frame (v : VerifyRecord) (o : WindowOutcome) (s : State) :
    EventFrame s (applyVerify v o s) := by
  have miss : EventFrame s (verifyMiss v s) :=
    EventFrame.trans (setLum_frame s v.addr _).event (judgeFault_frame _ _ _ _)
  unfold applyVerify
  split
  · split
    · unfold verifyConfirmed
      dsimp only
      split
      · exact EventFrame.trans (setLum_frame s v.addr _).event (raise_frame _ _)
      · exact (setLum_frame s v.addr _).event
    · exact EventFrame.trans ((setLum_frame s v.addr _).trans (reportMismatch_frame _ _)).event
        (judgeFault_frame _ _ _ _)
  · exact .refl s
  · exact miss
  · exact miss
  · exact miss

theorem verifyOutcome_frame (o : WindowOutcome) (s : State) : BlockFrame s (verifyOutcome o s) := by
  unfold verifyOutcome
  split
  · exact rfl
  · refine BlockFrame.trans (t := dropVerifyRecord s) rfl ?_
    dsimp only
    split
    · exact (applyVerify_frame _ _ _).block
    · exact rfl

/-! ## What a choice of the arbiter can start -/

/-- A level frame's head is pending (R121). -/
theorem levelHead_mem {s : State} {head : Addr} (first : levelHead s = some head) : head ∈ s.pendingList := by
  unfold levelHead at first
  split at first
  · next found =>
    cases first
    exact List.mem_of_find?_eq_some found
  · exact List.mem_of_head? first

/-- A level candidate starts a frame that covers each of its entries once, or there is no pending entry (R121 to R123). -/
theorem takeLevel_cases (s : State) :
    takeLevel s = s ∨
    ∃ unit head covered, covered.Nodup ∧
      (∀ a ∈ covered, a ∈ s.pendingList ∨ (s.lum a).shadow = .pending) ∧
      takeLevel s = emit unit head covered s := by
  unfold takeLevel
  split
  · exact .inl rfl
  · next head first =>
    split
    · next z covered zone =>
      unfold zoneCover at zone
      split at zone
      · cases zone
      · split at zone
        · next cover =>
          cases zone
          refine .inr ⟨_, _, _, members_nodup s _, fun a member => .inr ?_, rfl⟩
          have shares := List.all_eq_true.mp cover.2 a member
          simp only [sharesFrame, Bool.and_eq_true, beq_iff_eq] at shares
          exact shares.1.1.2
        · cases zone
    · refine .inr ⟨_, _, [head], by simp, fun a member => .inl ?_, rfl⟩
      rw [List.mem_singleton.mp member]
      exact levelHead_mem first

/-- Only alignment differs, and the order of the pending list is as it was (R108). -/
def AlignedFrame (s t : State) : Prop :=
  t = { s with lums := t.lums } ∧ ∀ a, ∃ aligned, t.lum a = { s.lum a with aligned := aligned }

theorem clearAligned_alignedFrame (f : Frame) (s : State) : AlignedFrame s (clearAligned f s) := by
  refine ⟨by simp only [clearAligned], fun a => ?_⟩
  rw [clearAligned_lum]
  split
  · exact ⟨false, rfl⟩
  · exact ⟨_, rfl⟩

/-- The forward queue's head starts and is ON ROW; only alignment can change beside it (R116, R108). -/
theorem takeForward_cases (s : State) :
    takeForward s = s ∨
    ∃ e q, s.forward = e :: q ∧
      AlignedFrame (startRow e.frame .forward { s with forward := { e with onRow := true } :: q })
        (takeForward s) := by
  unfold takeForward
  split
  · exact .inl rfl
  · next e q forward =>
    refine .inr ⟨e, q, forward, ?_⟩
    dsimp only
    split
    · exact clearAligned_alignedFrame _ _
    · exact ⟨rfl, fun a => ⟨_, rfl⟩⟩

theorem AlignedFrame.rowMap {s t : State} (h : AlignedFrame s t) : RowMapFrame s t := by
  obtain ⟨frame, -⟩ := h
  unfold RowMapFrame
  rw [frame]

/-- The query of the next channel starts, if that names a sensor unit (R48). -/
theorem takeScan_cases (s : State) :
    takeScan s = s ∨
    ∃ c u, s.scan.next = some c ∧ (s.channelConfig c).unit = some u ∧
      takeScan s = startRow ⟨.query, s.segmentByte, BitVec.ofNat 8 u.val, [8]⟩ (.scan c)
        { s with
          scan := { s.scan with
            next := none, lastQueried := some c, onRow := true, disregard := false }
          starvation := 0 } := by
  unfold takeScan
  split
  · exact .inl rfl
  · next c next =>
    split
    · exact .inl rfl
    · next u unit => exact .inr ⟨c, u, next, unit, rfl⟩

/-- An alignment request starts, with its record (R37, R151). -/
theorem takeAlignment_cases (s : State) :
    takeAlignment s = s ∨
    ∃ a, takeAlignment s = startRow
      ⟨.deviceConfig, s.segmentByte, BitVec.ofNat 8 a.val, 1 :: bytes16 (alignMask (s.row a).zone)⟩
      .alignment
      { s with
        lowerTurn := true
        verify := { s.verify with
          alignPointer := Addr.succ a, alignRecord := some ⟨a, (s.row a).zone, false⟩ } } := by
  unfold takeAlignment
  split
  · exact .inl rfl
  · next a _ => exact .inr ⟨a, rfl⟩

/-- A verify query starts, with its record (R146). -/
theorem takeVerify_cases (s : State) :
    takeVerify s = s ∨
    ∃ a probe, takeVerify s = startRow ⟨.query, s.segmentByte, BitVec.ofNat 8 a.val, [1]⟩ .verify
      { s with
        lowerTurn := true
        verify := { s.verify with
          pointer := Addr.succ a
          probe := probeAfter a probe
          last := s.stamp
          record := some ⟨a, (s.lum a).sent⟩ } } := by
  unfold takeVerify
  split
  · exact .inl rfl
  · next a probe _ => exact .inr ⟨a, probe, rfl⟩

/-- The starvation count changes by 1 and stops at 6, or stays (R120). -/
theorem countStarvation_cases (s : State) :
    countStarvation s = s ∨ countStarvation s = { s with starvation := min 6 (s.starvation + 1) } := by
  unfold countStarvation
  split
  · exact .inr rfl
  · exact .inl rfl

theorem scanning_of_scanOffered {s : State} (offered : scanOffered s = true) : s.scan.state = .scanning := by
  simp only [scanOffered, Bool.and_eq_true, beq_iff_eq] at offered
  exact offered.1.1

/-- What an invariant must keep for the arbiter to keep it: each class's frame, which starts in READY. -/
theorem arbitrate_induction {Inv : State → Prop}
    (starved : ∀ s, Inv s → Inv { s with starvation := min 6 (s.starvation + 1) })
    (level : ∀ s unit head covered, s.rowTx = .ready → covered.Nodup →
      (∀ a ∈ covered, a ∈ s.pendingList ∨ (s.lum a).shadow = .pending) → Inv s →
      Inv (emit unit head covered s))
    (forward : ∀ s t e q, s.rowTx = .ready → s.forward = e :: q →
      AlignedFrame (startRow e.frame .forward { s with forward := { e with onRow := true } :: q }) t →
      Inv s → Inv t)
    (scan : ∀ s c f, s.rowTx = .ready → s.scan.state = .scanning → Inv s →
      Inv (startRow f (.scan c) { s with
        scan := { s.scan with next := none, lastQueried := some c, onRow := true, disregard := false }
        starvation := 0 }))
    (alignment : ∀ s f v, s.rowTx = .ready → v.record = s.verify.record → v.alignRecord.isSome = true →
      Inv s → Inv (startRow f .alignment { s with lowerTurn := true, verify := v }))
    (verify : ∀ s f v, s.rowTx = .ready → v.alignRecord = s.verify.alignRecord → v.record.isSome = true →
      Inv s → Inv (startRow f .verify { s with lowerTurn := true, verify := v }))
    (s : State) (h : Inv s) : Inv (arbitrate s) := by
  by_cases ready : s.rowTx = .ready
  · have counted : Inv (countStarvation s) := by
      obtain same | more := countStarvation_cases s
      · rwa [same]
      · rw [more]
        exact starved s h
    have countedReady : (countStarvation s).rowTx = .ready := by
      obtain same | more := countStarvation_cases s
      · rwa [same]
      · rw [more]
        exact ready
    have levelTaken : ∀ t : State, t.rowTx = .ready → Inv t → Inv (takeLevel t) := by
      intro t tReady k
      obtain same | ⟨unit, head, covered, nodup, waiting, emitted⟩ := takeLevel_cases t
      · rwa [same]
      · rw [emitted]
        exact level t unit head covered tReady nodup waiting k
    have taken : ∀ k, stands s k = true → Inv (take s k) := by
      intro k offered
      cases k with
      | a => exact levelTaken _ countedReady counted
      | b =>
        show Inv (takeForward (countStarvation s))
        obtain same | ⟨e, q, head, frame⟩ := takeForward_cases (countStarvation s)
        · rwa [same]
        · exact forward _ _ e q countedReady head frame counted
      | c =>
        show Inv (takeScan s)
        obtain same | ⟨c, u, -, -, started⟩ := takeScan_cases s
        · rwa [same]
        · rw [started]
          exact scan s c _ ready (scanning_of_scanOffered offered) h
      | d => exact levelTaken s ready h
      | e =>
        show Inv (takeAlignment s)
        obtain same | ⟨a, started⟩ := takeAlignment_cases s
        · rwa [same]
        · rw [started]
          exact alignment s _ _ ready rfl rfl h
      | f =>
        show Inv (takeVerify s)
        obtain same | ⟨a, probe, started⟩ := takeVerify_cases s
        · rwa [same]
        · rw [started]
          exact verify s _ _ ready rfl rfl h
    unfold arbitrate
    rw [if_pos ready]
    split
    · next k choice => exact taken k (List.find?_some choice)
    · exact h
  · rwa [arbitrate_of_not_ready s ready]

end Sys2Proof.Machine

namespace Sys2Proof.Machine

/-! ## The upstream queue's operations as permutations -/

/-- Placing an entry adds it, wherever it then stands (R15, R16). -/
theorem place_perm (e : UpEntry) (q : List UpEntry) : (place e q).Perm (e :: q) := by
  unfold place
  refine List.perm_middle.trans ?_
  rw [List.takeWhile_append_dropWhile]

/-- The oldest notice that is not being transmitted, of the lowest priority among those, leaves the queue. -/
theorem dropOldest_perm {q : List UpEntry} {p : Nat} (lowest : lowestPriority q = some p) :
    ∃ e, e.isNotice = true ∧ e.sending = false ∧ e.rank = p ∧ q.Perm (e :: dropOldest p q) := by
  have member : p ∈ (movable q).map UpEntry.rank := List.min?_mem lowest
  obtain ⟨e, movable, rank⟩ := List.mem_map.mp member
  obtain ⟨queued, moves⟩ := List.mem_filter.mp movable
  obtain ⟨f, before, behind, -, found, split, rest⟩ :=
    List.exists_of_eraseP (p := fun e => e.isNotice && !e.sending && e.rank == p) queued
      (by simp [moves, rank])
  simp only [Bool.and_eq_true, Bool.not_eq_true', beq_iff_eq] at found
  obtain ⟨⟨notice, still⟩, isLowest⟩ := found
  refine ⟨f, notice, still, isLowest, ?_⟩
  rw [dropOldest, rest, split]
  exact List.perm_middle

/-- The first notice leaves the queue, if one is there. -/
theorem eraseNotice_perm {q : List UpEntry} (some : 0 < noticeCount q) :
    ∃ e, e.isNotice = true ∧ q.Perm (e :: q.eraseP UpEntry.isNotice) := by
  obtain ⟨e, member⟩ := List.exists_mem_of_length_pos some
  obtain ⟨queued, notice⟩ := List.mem_filter.mp member
  obtain ⟨f, before, behind, -, found, split, rest⟩ := List.exists_of_eraseP queued notice
  refine ⟨f, found, ?_⟩
  rw [rest, split]
  exact List.perm_middle

theorem noticeCount_perm {p q : List UpEntry} (h : p.Perm q) : noticeCount p = noticeCount q :=
  (h.filter _).length_eq

@[simp] theorem noticeCount_cons (e : UpEntry) (q : List UpEntry) :
    noticeCount (e :: q) = noticeCount q + if e.isNotice then 1 else 0 := by
  unfold noticeCount
  cases h : e.isNotice <;> simp [h]

/-- An image of the queue whose entries are notices as before holds as many notices. -/
theorem noticeCount_map {f : UpEntry → UpEntry} (same : ∀ e, (f e).isNotice = e.isNotice)
    (q : List UpEntry) : noticeCount (q.map f) = noticeCount q := by
  unfold noticeCount
  rw [List.filter_map, List.length_map, show UpEntry.isNotice ∘ f = UpEntry.isNotice from funext same]

theorem noticeCount_filter_le (p : UpEntry → Bool) (q : List UpEntry) :
    noticeCount (q.filter p) ≤ noticeCount q :=
  (List.filter_sublist.filter UpEntry.isNotice).length_le

@[simp] theorem isNotice_unmark (e : UpEntry) : e.unmark.isNotice = e.isNotice := rfl

@[simp] theorem isNotice_mergeInto (n : Notice) (e : UpEntry) : (mergeInto n e).isNotice = e.isNotice := by
  obtain ⟨item, sending, merged⟩ := e
  cases item with
  | notice m =>
    unfold mergeInto
    dsimp only
    split <;> rfl
  | deferred d => rfl

/-- A DEFERRED REPLY stands in the queue unless that is full even now (R15; log entry 22). -/
def placeDeferred (d : DeferredReply) (s : State) : State :=
  if Config.upstreamCapacity ≤ s.upstream.length then s
  else { s with upstream := place ⟨.deferred d, false, false⟩ s.upstream }

theorem offerDeferred_eq (d : DeferredReply) (s : State) :
    offerDeferred d s =
      placeDeferred d (if Config.upstreamCapacity ≤ s.upstream.length then makePlace s else s) := rfl

/-! ## The capacities of the upstream queue (R15) -/

/-- At most 8 frames and 4 notices are queued (R15). -/
def QueueFits (q : List UpEntry) : Prop := q.length ≤ 8 ∧ noticeCount q ≤ 4

theorem QueueFits.map {q : List UpEntry} (h : QueueFits q) {f : UpEntry → UpEntry}
    (same : ∀ e, (f e).isNotice = e.isNotice) : QueueFits (q.map f) := by
  obtain ⟨frames, notices⟩ := h
  exact ⟨by simpa using frames, by rwa [noticeCount_map same]⟩

theorem QueueFits.filter {q : List UpEntry} (h : QueueFits q) (p : UpEntry → Bool) :
    QueueFits (q.filter p) := by
  obtain ⟨frames, notices⟩ := h
  exact ⟨Nat.le_trans (List.length_filter_le _ _) frames, Nat.le_trans (noticeCount_filter_le _ _) notices⟩

/-- What making a place leaves fits, with one frame less if a notice was displaced (R15). -/
theorem makePlace_fits {s : State} (h : QueueFits s.upstream) : QueueFits (makePlace s).upstream := by
  obtain ⟨frames, notices⟩ := h
  unfold makePlace
  split
  · next p lowest =>
    obtain ⟨e, notice, -, -, perm⟩ := dropOldest_perm lowest
    have length := perm.length_eq
    have count := noticeCount_perm perm
    simp only [List.length_cons, noticeCount_cons, notice, if_true] at length count
    exact ⟨show (dropOldest p s.upstream).length ≤ 8 by omega,
      show noticeCount (dropOldest p s.upstream) ≤ 4 by omega⟩
  · split
    · next some =>
      obtain ⟨e, notice, perm⟩ := eraseNotice_perm some
      have length := perm.length_eq
      have count := noticeCount_perm perm
      simp only [List.length_cons, noticeCount_cons, notice, if_true] at length count
      exact ⟨show (s.upstream.eraseP UpEntry.isNotice).length ≤ 8 by omega,
        show noticeCount (s.upstream.eraseP UpEntry.isNotice) ≤ 4 by omega⟩
    · exact ⟨frames, notices⟩

theorem place_fits {e : UpEntry} {q : List UpEntry} (h : QueueFits q) (frames : q.length < 8)
    (notices : e.isNotice = true → noticeCount q < 4) : QueueFits (place e q) := by
  have perm := place_perm e q
  have count := noticeCount_perm perm
  have length := perm.length_eq
  obtain ⟨-, fits⟩ := h
  simp only [List.length_cons, noticeCount_cons] at length count
  refine ⟨by omega, ?_⟩
  rw [count]
  split
  · next notice => exact notices notice
  · exact fits

/-- An offered DEFERRED REPLY leaves a queue that fits (R15). -/
theorem offerDeferred_fits (d : DeferredReply) {s : State} (h : QueueFits s.upstream) :
    QueueFits (offerDeferred d s).upstream := by
  have placed : ∀ t : State, QueueFits t.upstream → QueueFits (placeDeferred d t).upstream := by
    intro t fits
    unfold placeDeferred
    split
    · exact fits
    · next room => exact place_fits fits (Nat.lt_of_not_le room) nofun
  rw [offerDeferred_eq]
  split
  · exact placed _ (makePlace_fits h)
  · exact placed s h

/-- An offered NOTICE leaves a queue that fits (R15, R16). -/
theorem offerNotice_fits (n : Notice) {s : State} (h : QueueFits s.upstream) :
    QueueFits (offerNotice n s).upstream := by
  unfold offerNotice
  split
  · exact h.map (isNotice_mergeInto n)
  · split
    · next room =>
      obtain ⟨notices, frames⟩ := room
      exact place_fits h frames fun _ => notices
    · split
      · next p lowest =>
        split
        · obtain ⟨e, notice, -, -, perm⟩ := dropOldest_perm lowest
          have length := perm.length_eq
          have count := noticeCount_perm perm
          obtain ⟨frames, notices⟩ := h
          simp only [List.length_cons, noticeCount_cons, notice, if_true] at length count
          have less : (dropOldest p s.upstream).length < 8 := by omega
          have fewer : noticeCount (dropOldest p s.upstream) < 4 := by omega
          exact place_fits ⟨Nat.le_of_lt less, Nat.le_of_lt fewer⟩ less fun _ => fewer
        · exact h
      · exact h

theorem noticeOf_fits (e : Event) {s : State} (h : QueueFits s.upstream) :
    QueueFits (noticeOf e s).upstream := by
  unfold noticeOf
  dsimp only
  split
  · exact offerNotice_fits _ h
  · exact h

theorem endTagged_fits (e : FwdEntry) (o : DeferralOutcome) (noisy : Bool) (data : List Byte) {s : State}
    (h : QueueFits s.upstream) : QueueFits (endTagged e o noisy data s).upstream := by
  unfold endTagged
  split
  · exact offerDeferred_fits _ h
  · exact h

theorem settleSent_fits {q : List UpEntry} (h : QueueFits q) : QueueFits (settleSent q) :=
  (h.filter _).map isNotice_unmark

/-! ## Every step keeps the capacities (O8) -/

/-- A deferral finds a place and a tag (R134). -/
theorem relayFull_eq_false {s : State} :
    relayFull s = false ↔ s.forward.length < 4 ∧ s.tagsInUse.length < 8 := by
  unfold relayFull
  rw [decide_eq_false_iff_not]
  simp only [Config.forwardCapacity, Config.tagCapacity]
  omega

/-- The capacities, with those of the upstream queue together. -/
theorem capacitiesOk_iff (s : State) :
    s.CapacitiesOk ↔ s.forward.length ≤ 4 ∧ QueueFits s.upstream ∧
      s.tagsInUse.Nodup ∧ s.tagsInUse.length ≤ 8 ∧ s.starvation ≤ 6 ∧ s.counters.Ok := by
  unfold State.CapacitiesOk QueueFits
  rw [and_assoc]

namespace State.CapacitiesOk

variable {s t : State}

/-- The capacities read these five fields. -/
theorem same (h : s.CapacitiesOk) (read : t.forward = s.forward ∧ t.upstream = s.upstream ∧
    t.tagsInUse = s.tagsInUse ∧ t.starvation = s.starvation ∧ t.counters = s.counters) :
    t.CapacitiesOk := by
  obtain ⟨forward, upstream, tags, starvation, counters⟩ := read
  unfold State.CapacitiesOk at h ⊢
  rwa [forward, upstream, tags, starvation, counters]

theorem ofConfig (f : ConfigFrame s t) (h : s.CapacitiesOk) : t.CapacitiesOk := by
  unfold ConfigFrame at f
  exact h.same (by rw [f]; and_intros <;> rfl)

theorem ofQuiet (h : s.CapacitiesOk) (f : Quiet s t) : t.CapacitiesOk := by
  unfold Quiet at f
  exact h.same (by rw [f]; and_intros <;> rfl)

/-- A change of the upstream queue and its marks keeps the capacities if the queue fits as before. -/
theorem ofUpstream (f : UpstreamFrame s t) (fits : QueueFits s.upstream → QueueFits t.upstream)
    (h : s.CapacitiesOk) : t.CapacitiesOk := by
  rw [capacitiesOk_iff] at h ⊢
  obtain ⟨forward, queue, rest⟩ := h
  have queue' := fits queue
  unfold UpstreamFrame at f
  rw [f] at queue' ⊢
  exact ⟨forward, queue', rest⟩

/-- A change of the forward queue keeps the capacities if it does not grow. -/
theorem shorter {q : List FwdEntry} (le : q.length ≤ s.forward.length) (h : s.CapacitiesOk) :
    ({ s with forward := q } : State).CapacitiesOk := by
  obtain ⟨forward, rest⟩ := h
  exact ⟨Nat.le_trans le forward, rest⟩

theorem counted {c : Counters} (ok : s.counters.Ok → c.Ok) (h : s.CapacitiesOk) :
    ({ s with counters := c } : State).CapacitiesOk := by
  obtain ⟨forward, frames, notices, nodup, tags, starvation, counters⟩ := h
  exact ⟨forward, frames, notices, nodup, tags, starvation, ok counters⟩

theorem countForwardDrop (h : s.CapacitiesOk) : (countForwardDrop s).CapacitiesOk := by
  refine h.counted fun ok => ?_
  obtain ⟨framing, check, arbitration, rowFraming, rowCheck, noisy, -⟩ := ok
  exact ⟨framing, check, arbitration, rowFraming, rowCheck, noisy, bump_le _⟩

theorem endTagged (e : FwdEntry) (o : DeferralOutcome) (noisy : Bool) (data : List Byte)
    (h : s.CapacitiesOk) : (endTagged e o noisy data s).CapacitiesOk :=
  h.ofUpstream (endTagged_frame e o noisy data s) (endTagged_fits e o noisy data)

theorem forwardUntagged (f : Frame) (h : s.CapacitiesOk) : (forwardUntagged f s).CapacitiesOk := by
  unfold Machine.forwardUntagged
  split
  · exact h.countForwardDrop
  · next room =>
    obtain ⟨-, rest⟩ := h
    refine ⟨?_, rest⟩
    simp only [Config.forwardCapacity] at room
    simp only [List.length_append, List.length_cons, List.length_nil]
    omega

theorem defer (f : Frame) (h : s.CapacitiesOk) : (defer f s).CapacitiesOk := by
  unfold Machine.defer
  dsimp only
  split
  · exact h
  · next room =>
    split
    · next t free =>
      obtain ⟨-, frames, notices, nodup, -, rest⟩ := h
      obtain ⟨place, tag⟩ := relayFull_eq_false.mp (Bool.eq_false_iff.mpr room)
      refine ⟨?_, frames, notices, ?_, ?_, rest⟩
      · simp only [answerWith_forward, acceptDeferral, List.length_append, List.length_cons,
          List.length_nil]
        omega
      · exact nodup_concat nodup (nextTag_spec _ _ _ free)
      · simp only [answerWith_tagsInUse, acceptDeferral, List.length_append, List.length_cons,
          List.length_nil]
        omega
    · exact h

theorem expire (t : Tag) (h : s.CapacitiesOk) : (expire t s).CapacitiesOk := by
  unfold Machine.expire
  split
  · exact (h.shorter (List.length_eraseP_le)).endTagged _ _ _ _
  · exact h

theorem flushForward (h : s.CapacitiesOk) : (flushForward s).CapacitiesOk := by
  have flushed : ∀ (es : List FwdEntry) (t : State), t.CapacitiesOk →
      (es.foldl flushEntry t).CapacitiesOk := by
    intro es
    induction es with
    | nil => exact fun _ k => k
    | cons e es ih =>
      refine fun t k => ih _ ?_
      unfold flushEntry
      split
      · exact k.endTagged _ _ _ _
      · exact k.countForwardDrop
  exact flushed _ _ (h.shorter (q := []) (Nat.zero_le _))

end State.CapacitiesOk

/-- Scans, passes and events keep the capacities. -/
theorem capacitiesScanRule : ScanRule State.CapacitiesOk State.CapacitiesOk :=
  .ofBlind (fun _ _ _ h => h.same ⟨rfl, rfl, rfl, rfl, rfl⟩) (fun _ h => h.same (by simp))
     (fun s a h => h.ofConfig (recompute_frame s a).config)
    fun e s h => h.ofUpstream (noticeOf_frame e s) (noticeOf_fits e)

/-- Taking a frame to the row keeps the capacities: the forward queue keeps its length (R116, R120). -/
theorem arbitrate_capacities (s : State) (h : s.CapacitiesOk) : (arbitrate s).CapacitiesOk := by
  refine arbitrate_induction ?starved ?level ?forward ?scan (fun _ _ _ _ _ _ k => k.same ⟨rfl, rfl, rfl, rfl, rfl⟩)
    (fun _ _ _ _ _ _ k => k.same ⟨rfl, rfl, rfl, rfl, rfl⟩) s h
  case starved =>
    rintro s ⟨forward, frames, notices, nodup, tags, -, counters⟩
    exact ⟨forward, frames, notices, nodup, tags, Nat.min_le_left _ _, counters⟩
  case level =>
    intro s unit head covered _ _ _ k
    have record : ({ startRow (levelFrame s unit head) .level s with
        emission := some ⟨covered, (s.lum head).output⟩ } : State).CapacitiesOk := k.same ⟨rfl, rfl, rfl, rfl, rfl⟩
    exact record.ofConfig (RowMapFrame.foldl (startCovered_frame _) covered _).config
  case forward =>
    intro s t e q _ head frame k
    have started : ({ s with forward := { e with onRow := true } :: q } : State).CapacitiesOk :=
      k.shorter (by rw [head]; exact Nat.le_refl _)
    have onRow : (startRow e.frame .forward
        { s with forward := { e with onRow := true } :: q }).CapacitiesOk := started.same ⟨rfl, rfl, rfl, rfl, rfl⟩
    exact onRow.ofConfig frame.rowMap.config
  case scan =>
    rintro s c f _ _ ⟨forward, frames, notices, nodup, tags, -, counters⟩
    exact ⟨forward, frames, notices, nodup, tags, Nat.zero_le _, counters⟩

/-- A warm restart and a power-on leave empty queues before the last event is raised (R168, R170). -/
theorem capacities_of_empty {s : State} (forward : s.forward = []) (upstream : s.upstream = [])
    (tags : s.tagsInUse = []) (starvation : s.starvation = 0) (counters : s.counters = .zero) :
    s.CapacitiesOk := by
  unfold State.CapacitiesOk
  rw [forward, upstream, tags, starvation, counters]
  simp [noticeCount, Counters.Ok, Counters.zero]

namespace State.CapacitiesOk

variable {s : State}

/-! ### The larger parts of commands -/

theorem powerOn (straps : Fin 16) (above : Bool) (s : State) : (powerOn straps above s).CapacitiesOk := by
  have blocks : (powerOnBlocks straps above s).CapacitiesOk := capacities_of_empty rfl rfl rfl rfl rfl
  exact capacitiesScanRule.raise _ blocks

theorem suspendScan (h : s.CapacitiesOk) : (suspendScan s).CapacitiesOk :=
  h.same ⟨rfl, rfl, rfl, rfl, rfl⟩

theorem endScan (st : ScanState) (h : s.CapacitiesOk) : (endScan st s).CapacitiesOk :=
  h.same ⟨rfl, rfl, rfl, rfl, rfl⟩

theorem enterGap (h : s.CapacitiesOk) : (enterGap s).CapacitiesOk :=
  h.same ⟨rfl, rfl, rfl, rfl, rfl⟩

theorem warmRestart (s : State) : (warmRestart s).CapacitiesOk := by
  have blocks : (warmBlocks s).CapacitiesOk := capacities_of_empty rfl rfl rfl rfl rfl
  unfold Machine.warmRestart
  dsimp only
  refine capacitiesScanRule.raise _ ?_
  split
  · have returned := blocks.ofConfig (rowMapReturned_frame _).config
    exact capacitiesScanRule.resumeScan (returned.endScan .idle)
  · exact blocks

theorem rowPowerLost (h : s.CapacitiesOk) : (rowPowerLost s).CapacitiesOk := by
  obtain ⟨forward, frames, notices, nodup, tags, -, counters⟩ := h
  have port : (rowPortLost { s with power := { s.power with present := false } }).CapacitiesOk :=
    ⟨forward, frames, notices, nodup, tags, Nat.zero_le _, counters⟩
  have suspended := (port.ofConfig (rowMapLost_frame _).config).suspendScan
  exact capacitiesScanRule.raise _ (suspended.flushForward.ofConfig (verifyLost_frame _))

theorem rowPowerReturned (h : s.CapacitiesOk) : (rowPowerReturned s).CapacitiesOk := by
  have present : ({ s with power := { s.power with present := true } } : State).CapacitiesOk :=
    h.same ⟨rfl, rfl, rfl, rfl, rfl⟩
  have returned := present.enterGap.ofConfig (rowMapReturned_frame _).config
  exact capacitiesScanRule.raise _ (capacitiesScanRule.resumeScan (returned.endScan .idle))

theorem queue {q : List UpEntry} (fits : QueueFits s.upstream → QueueFits q) (h : s.CapacitiesOk) :
    ({ s with upstream := q } : State).CapacitiesOk := h.ofUpstream rfl fits

theorem startHead (h : s.CapacitiesOk) : (startHead s).CapacitiesOk := by
  unfold Machine.startHead
  split
  · exact h
  · next e q upstream =>
    have started : ({ s with upstream := { e with sending := true, merged := false } :: q } : State).CapacitiesOk :=
      h.queue fun fits => by
        rw [upstream] at fits
        obtain ⟨frames, notices⟩ := fits
        refine ⟨frames, ?_⟩
        rw [noticeCount_cons] at notices ⊢
        exact notices
    exact started.same ⟨rfl, rfl, rfl, rfl, rfl⟩

theorem finishSending (flag : Bool) (h : s.CapacitiesOk) : (finishSending flag s).CapacitiesOk := by
  rw [capacitiesOk_iff] at h ⊢
  obtain ⟨forward, queue, nodup, tags, rest⟩ := h
  exact ⟨forward, settleSent_fits queue, nodup.filter _, Nat.le_trans (List.length_filter_le _ _) tags, rest⟩

theorem channelWrite (c : ChannelId) (v : ChannelConfig) (h : s.CapacitiesOk) :
    (applyChannelWrite c v s).CapacitiesOk := by
  unfold applyChannelWrite
  dsimp only
  split
  · exact h.same ⟨rfl, rfl, rfl, rfl, rfl⟩
  · refine capacitiesScanRule.reviseScan ?_
    unfold disregardQuery
    split <;> exact h.same ⟨rfl, rfl, rfl, rfl, rfl⟩

theorem finishLevel (h : s.CapacitiesOk) : (finishLevel s).CapacitiesOk := by
  unfold Machine.finishLevel
  split
  · exact h.same ⟨rfl, rfl, rfl, rfl, rfl⟩
  · next m _ =>
    have completed := h.ofConfig (RowMapFrame.foldl (completeCovered_frame m.level) m.covered s).config
    exact State.CapacitiesOk.enterGap (completed.same ⟨rfl, rfl, rfl, rfl, rfl⟩)

theorem popForward (h : s.CapacitiesOk) : (Machine.enterGap (popForward s)).CapacitiesOk := by
  have popped : ({ s with forward := s.forward.tail } : State).CapacitiesOk := h.shorter (by simp)
  exact popped.same ⟨rfl, rfl, rfl, rfl, rfl⟩

theorem deferredOutcome (e : FwdEntry) (o : WindowOutcome) (h : s.CapacitiesOk) :
    (deferredOutcome e o s).CapacitiesOk := by
  cases o <;> exact h.endTagged _ _ _ _

end State.CapacitiesOk

/-- Every command keeps the capacities. -/
theorem capacitiesRule : StepRule State.CapacitiesOk State.CapacitiesOk where
  start _ h := h
  quietBefore := State.CapacitiesOk.ofQuiet
  quiet := State.CapacitiesOk.ofQuiet
  countBefore _ _ ok h := h.counted ok
  count _ _ ok h := h.counted ok
  powerOn straps above s _ := .powerOn straps above s
  warmRestart s _ := .warmRestart s
  rowPowerLost _ h := h.rowPowerLost
  rowPowerReturned _ _ h := h.rowPowerReturned
  startHead _ h := h.startHead
  loseHead _ h := h.queue fun fits => fits.map isNotice_unmark
  finishSending flag _ h := h.finishSending flag
  absorb level fade s a _ h := h.ofConfig (absorb_frame level fade s a).config
  forwardUntagged f _ h := h.forwardUntagged f
  defer f _ _ h := h.defer f
  rowWrite a r s _ h := h.ofConfig (applyRowWrite_frame a r s)
  zoneWrite z c s _ h := h.ofConfig (applyZoneWrite_frame z c s)
  channelWrite c v _ _ h := h.channelWrite c v
  groupWrite _ _ _ h := h.same ⟨rfl, rfl, rfl, rfl, rfl⟩
  routeWrite _ _ _ _ h := h.same ⟨rfl, rfl, rfl, rfl, rfl⟩
  settingsWrite k t _ _ h := capacitiesScanRule.applySettingsWrite k t
    (fun _ _ => h.same ⟨rfl, rfl, rfl, rfl, rfl⟩) (h.same ⟨rfl, rfl, rfl, rfl, rfl⟩)
  loadRow _ _ _ _ h := h.same ⟨rfl, rfl, rfl, rfl, rfl⟩
  changeMode change s z _ _ h := h.ofConfig (changeMode_configFrame change s z)
  trigger urgent _ h := capacitiesScanRule.trigger urgent h
  takeTick _ h := capacitiesScanRule.takeTick h
  raise e _ h := capacitiesScanRule.raise e h
  arbitrate := arbitrate_capacities
  ready _ _ h := h.same ⟨rfl, rfl, rfl, rfl, rfl⟩
  leaveReady _ _ h := h.same ⟨rfl, rfl, rfl, rfl, rfl⟩
  finishLevel _ _ _ _ h := h.finishLevel
  popForward _ _ _ _ _ h := h.popForward
  closeDeferred _ _ e _ o _ _ _ h := h.popForward.deferredOutcome e o
  closeScan _ _ c _ _ _ h :=
    capacitiesScanRule.scanOutcome_of_blind (fun _ _ _ k => k.same ⟨rfl, rfl, rfl, rfl, rfl⟩) c _
      (h.same ⟨rfl, rfl, rfl, rfl, rfl⟩) (h.same ⟨rfl, rfl, rfl, rfl, rfl⟩)
  closeVerify _ _ o _ _ h :=
    capacitiesScanRule.verifyOutcome (fun s a l _ k => k.ofConfig (setLum_frame s a l).config)
      (fun s a _ _ k => k.ofConfig (reportMismatch_frame a s).config) o
      (h.same ⟨rfl, rfl, rfl, rfl, rfl⟩) fun _ => h.same ⟨rfl, rfl, rfl, rfl, rfl⟩
  closeAlignment s _ o _ _ h :=
    State.CapacitiesOk.ofConfig (alignOutcome_frame o (enterGap s)) (h.same ⟨rfl, rfl, rfl, rfl, rfl⟩)
  expire t _ h := h.expire t
  saturate _ h := h.same (by simp [saturateStamps])

/-- Settles O8: every command keeps the capacities, by its parts. -/
theorem stepKeepsCapacities : Obligations.StepKeepsCapacities :=
  fun _ _ => capacitiesRule.step fun _ _ h => h

end Sys2Proof.Machine

namespace Sys2Proof.Machine

/-! ## The queue of waiting commands, which no command touches (O3) -/

section
variable {s t : State}

theorem Quiet.pending (f : Quiet s t) : t.pending = s.pending := by
  unfold Quiet at f
  rw [f]

theorem RowMapFrame.pending (f : RowMapFrame s t) : t.pending = s.pending := by
  unfold RowMapFrame at f
  rw [f]

theorem UpstreamFrame.pending (f : UpstreamFrame s t) : t.pending = s.pending := by
  unfold UpstreamFrame at f
  rw [f]

theorem EventFrame.pending (f : EventFrame s t) : t.pending = s.pending := by
  unfold EventFrame at f
  rw [f]

theorem ConfigFrame.pending (f : ConfigFrame s t) : t.pending = s.pending := by
  unfold ConfigFrame at f
  rw [f]

theorem BlockFrame.pending (f : BlockFrame s t) : t.pending = s.pending := by
  unfold BlockFrame at f
  rw [f]

theorem RelayFrame.pending (f : RelayFrame s t) : t.pending = s.pending := by
  unfold RelayFrame at f
  rw [f]

theorem TakeFrame.pending (f : TakeFrame s t) : t.pending = s.pending := by
  unfold TakeFrame at f
  rw [f]

end

@[simp] theorem raise_pending (e : Event) (s : State) : (raise e s).pending = s.pending :=
  (raise_frame e s).pending

@[simp] theorem resumeScan_pending (s : State) : (resumeScan s).pending = s.pending :=
  (resumeScan_frame s).pending

@[simp] theorem rowMapReturned_pending (s : State) : (rowMapReturned s).pending = s.pending :=
  (rowMapReturned_frame s).pending

@[simp] theorem warmRestart_pending (s : State) : (warmRestart s).pending = s.pending := by
  unfold warmRestart
  dsimp only
  rw [raise_pending]
  split
  · rw [resumeScan_pending, rowMapReturned_pending]
    rfl
  · rfl

@[simp] theorem rowPowerLost_pending (s : State) : (rowPowerLost s).pending = s.pending := by
  unfold rowPowerLost
  dsimp only
  rw [raise_pending, (verifyLost_frame _).pending, (flushForward_frame _).pending,
    (suspendScan_frame _).pending, (rowMapLost_frame _).pending]
  rfl

@[simp] theorem finishLevel_pending (s : State) : (finishLevel s).pending = s.pending := by
  unfold finishLevel
  split
  · rfl
  · next m _ => exact (RowMapFrame.foldl (completeCovered_frame m.level) m.covered s).pending

/-- Every command leaves the queue of waiting commands as it is. -/
theorem pendingRule (q : List Instr) :
    StepRule (fun s => s.pending = q) (fun s => s.pending = q) where
  start _ h := h
  quietBefore h f := f.pending.trans h
  quiet h f := f.pending.trans h
  countBefore _ _ _ h := h
  count _ _ _ h := h
  powerOn _ _ _ h := (raise_pending _ _).trans h
  warmRestart s h := (warmRestart_pending s).trans h
  rowPowerLost s h := (rowPowerLost_pending s).trans h
  rowPowerReturned _ _ h :=
    (raise_pending _ _).trans ((resumeScan_pending _).trans ((rowMapReturned_pending _).trans h))
  startHead s h := by
    unfold startHead
    split <;> exact h
  loseHead _ h := h
  finishSending _ _ h := h
  absorb level fade s a _ h := (absorb_frame level fade s a).pending.trans h
  forwardUntagged f s h := (forwardUntagged_frame f s).pending.trans h
  defer f s _ h := (defer_frame f s).pending.trans h
  rowWrite a r s _ h := (applyRowWrite_frame a r s).pending.trans h
  zoneWrite z c s _ h := (applyZoneWrite_frame z c s).pending.trans h
  channelWrite c v s _ h := (applyChannelWrite_frame c v s).pending.trans h
  groupWrite _ _ _ h := h
  routeWrite _ _ _ _ h := h
  settingsWrite k t s _ h := (applySettingsWrite_frame k t s).pending.trans h
  loadRow _ _ _ _ h := h
  changeMode change s z _ _ h := (changeMode_frame change s z).pending.trans h
  trigger urgent s h := (trigger_frame urgent s).pending.trans h
  takeTick s h := (takeTick_frame s).pending.trans h
  raise e s h := (raise_pending e s).trans h
  arbitrate s h := (arbitrate_frame s).pending.trans h
  ready _ _ h := h
  leaveReady _ _ h := h
  finishLevel s _ _ _ h := (finishLevel_pending s).trans h
  popForward _ _ _ _ _ h := h
  closeDeferred _ _ e _ o _ _ _ h := (deferredOutcome_frame e o _).pending.trans h
  closeScan s _ c w _ _ h := (scanOutcome_frame c (channelOutcome w) (enterGap s)).pending.trans h
  closeVerify s _ o _ _ h := (verifyOutcome_frame o (enterGap s)).pending.trans h
  closeAlignment s _ o _ _ h := (alignOutcome_frame o (enterGap s)).pending.trans h
  expire t s h := (expire_frame t s).pending.trans h
  saturate _ h := h

/-- Settles O3: every arm answers a next state, and none of its parts touches the queue. -/
theorem everyCommandCompletes : Obligations.EveryCommandCompletes :=
  fun c s => (pendingRule s.pending).exec c rfl

end Sys2Proof.Machine

namespace Sys2Proof

/-! ## Tables in range, entry by entry (R157, R165) -/

/-- Tables are in range when every entry of every table is. -/
theorem Tables.inRange_iff (t : Tables) :
    t.inRange = true ↔
      (∀ a : Addr, t.rowMap[a.val].inRange = true) ∧ (∀ z : ZoneId, t.zones[z.val].inRange = true) ∧
      (∀ c : ChannelId, t.channels[c.val].inRange = true) ∧
      (∀ z : ZoneId, ∀ c ∈ t.coeffs[z.val].toList, c ≤ 4095) ∧
      (∀ k : Fin 11, t.routes[k.val].inRange = true) ∧ t.settings.inRange = true := by
  have entries : ∀ {α : Type} {n : Nat} (v : Vector α n) (p : α → Bool),
      v.toList.all p = true ↔ ∀ i : Fin n, p v[i.val] = true := by
    intro α n v p
    simp only [List.all_eq_true, Vector.mem_toList_iff, Vector.mem_iff_getElem]
    exact ⟨fun h i => h _ ⟨i.val, i.isLt, rfl⟩, fun h x ⟨i, below, same⟩ => same ▸ h ⟨i, below⟩⟩
  have rows : ∀ z : ZoneId, t.coeffs[z.val].toList.all (fun c => decide (c ≤ 4095)) = true ↔
      ∀ c ∈ t.coeffs[z.val].toList, c ≤ 4095 := by
    intro z
    simp only [List.all_eq_true, decide_eq_true_eq]
  simp only [Tables.inRange, Bool.and_eq_true, entries _ RowConfig.inRange, entries _ ZoneConfig.inRange,
    entries _ ChannelConfig.inRange, entries _ Route.inRange, entries t.coeffs, rows, and_assoc]

/-- An entry that is put into a table is the entry read there, and no other changes. -/
theorem forall_set {α : Type} {n : Nat} {v : Vector α n} {p : α → Prop} (k : Fin n) {x : α} (put : p x)
    (held : ∀ i : Fin n, p v[i.val]) (i : Fin n) : p (v.set k.val x)[i.val] := by
  rw [Vector.getElem_set]
  split
  · exact put
  · exact held i

namespace Tables

variable {t : Tables}

theorem inRange_setRow (h : t.inRange = true) (a : Addr) {r : RowConfig} (ok : r.inRange = true) :
    ({ t with rowMap := t.rowMap.set a.val r } : Tables).inRange = true := by
  rw [inRange_iff] at h ⊢
  obtain ⟨rows, rest⟩ := h
  exact ⟨forall_set (p := fun r : RowConfig => r.inRange = true) a ok rows, rest⟩

theorem inRange_setZone (h : t.inRange = true) (z : ZoneId) {c : ZoneConfig} (ok : c.inRange = true) :
    ({ t with zones := t.zones.set z.val c } : Tables).inRange = true := by
  rw [inRange_iff] at h ⊢
  obtain ⟨rows, zones, rest⟩ := h
  exact ⟨rows, forall_set (p := fun c : ZoneConfig => c.inRange = true) z ok zones, rest⟩

theorem inRange_setChannel (h : t.inRange = true) (c : ChannelId) {v : ChannelConfig} (ok : v.inRange = true) :
    ({ t with channels := t.channels.set c.val v } : Tables).inRange = true := by
  rw [inRange_iff] at h ⊢
  obtain ⟨rows, zones, channels, rest⟩ := h
  exact ⟨rows, zones, forall_set (p := fun c : ChannelConfig => c.inRange = true) c ok channels, rest⟩

theorem inRange_setCoeffs (h : t.inRange = true) (z : ZoneId) {row : Vector Nat 8}
    (ok : ∀ c ∈ row.toList, c ≤ 4095) :
    ({ t with coeffs := t.coeffs.set z.val row } : Tables).inRange = true := by
  rw [inRange_iff] at h ⊢
  obtain ⟨rows, zones, channels, coeffs, rest⟩ := h
  exact ⟨rows, zones, channels, forall_set (p := fun r : Vector Nat 8 => ∀ c ∈ r.toList, c ≤ 4095) z ok coeffs, rest⟩

theorem inRange_setRoute (h : t.inRange = true) (k : Fin 11) {r : Route} (ok : r.inRange = true) :
    ({ t with routes := t.routes.set k.val r } : Tables).inRange = true := by
  rw [inRange_iff] at h ⊢
  obtain ⟨rows, zones, channels, coeffs, routes, settings⟩ := h
  exact ⟨rows, zones, channels, coeffs, forall_set (p := fun r : Route => r.inRange = true) k ok routes, settings⟩

theorem inRange_settings (h : t.inRange = true) {v : Settings} (ok : v.inRange = true) :
    ({ t with settings := v } : Tables).inRange = true := by
  rw [inRange_iff] at h ⊢
  obtain ⟨rows, zones, channels, coeffs, routes, -⟩ := h
  exact ⟨rows, zones, channels, coeffs, routes, ok⟩

end Tables

namespace Machine

/-! ## Ranges of single values -/

/-- The output of a level in range is in range (R77, R78). -/
theorem boundOutput_le {c : ZoneConfig} {v : ZoneStatus} {now : Clock} {b pmin : Nat}
    (ratio : v.ratio ≤ 1000) (level : b ≤ 1000) (least : pmin ≤ 1000) :
    boundOutput c v now b pmin ≤ 1000 := by
  have product : b * v.ratio ≤ 1000 * 1000 := Nat.mul_le_mul level ratio
  unfold boundOutput
  split
  · omega
  · split
    · split
      · omega
      · exact least
    · omega

theorem outputFor_le {s : State} (h : s.RangesOk) (a : Addr) {b : Nat} (level : b ≤ 1000) :
    s.outputFor a b ≤ 1000 := by
  obtain ⟨tables, -, zones, -⟩ := h
  have least : (s.row a).pmin ≤ 250 := pmin_le_of_inRange tables a
  unfold State.outputFor
  split
  · exact level
  · next z _ =>
    split
    · exact level
    · exact boundOutput_le (zones z).1 level (by omega)

theorem outputOf_le {s : State} (h : s.RangesOk) (a : Addr) : s.outputOf a ≤ 1000 :=
  outputFor_le h a (h.2.1 a).1

theorem rawRatio_le (t d : Nat) : rawRatio t d ≤ 1000 := by
  by_cases met : t ≤ d
  · rw [rawRatio_of_met met]
    omega
  · exact rawRatio_le_full (Nat.lt_of_not_le met)

theorem deadBanded_le {band raw r : Nat} (hraw : raw ≤ 1000) (hr : r ≤ 1000) :
    deadBanded band raw r ≤ 1000 := by
  unfold deadBanded
  split
  · exact hr
  · exact hraw

theorem slew_le {c : ZoneConfig} {dt r wanted : Nat} (hr : r ≤ 1000) (hw : wanted ≤ 1000) :
    slew c dt r wanted ≤ 1000 := by
  unfold slew
  split <;> omega

theorem passRatio_le {s : State} {z : ZoneId} (ok : (s.zone z).Ok) (m : ZoneMode) :
    passRatio s z m ≤ 1000 := by
  obtain ⟨ratio, -⟩ := ok
  cases m with
  | track => exact slew_le ratio (deadBanded_le (rawRatio_le _ _) ratio)
  | failsafe => exact slew_le ratio (Nat.le_refl _)
  | hold => exact ratio
  | manual => exact ratio
  | unbound => exact ratio

/-- A pass leaves ratio and estimate in range (R70, R73). -/
theorem passZone_ok {s : State} {z : ZoneId} (ok : (s.zone z).Ok) : (passZone s z).Ok := by
  unfold passZone
  dsimp only
  split
  · exact ok
  · refine ⟨passRatio_le ok _, ?_⟩
    unfold passEstimate
    split
    · exact Nat.min_le_left _ _
    · exact ok.2

/-- A change of mode leaves ratio and estimate in range (R90 to R92). -/
theorem ZoneChange.ok {change : ZoneStatus → ZoneStatus} (c : ZoneChange change) {v : ZoneStatus}
    (ok : v.Ok) : (change v).Ok := by
  obtain ⟨ratio, estimate⟩ := ok
  obtain rfl | rfl | rfl := c
  · exact ⟨ratio, estimate⟩
  · unfold manualZone
    split
    · exact ⟨ratio, estimate⟩
    · exact ⟨Nat.le_refl _, estimate⟩
  · unfold trackZone
    split <;> exact ⟨ratio, estimate⟩

/-- The values a reply can bring are at most 20000 (R57). -/
theorem channelAfter_ok (s : State) (w : WindowOutcome) {v : ChannelStatus} (limit : s.settings.recoverLimit ≤ 15)
    (ok : v.Ok) : (channelAfter s (channelOutcome w) v).Ok := by
  obtain ⟨reading, misses, recoveries⟩ := ok
  have lux : ∀ p, luxOf p ≤ 20000 := fun p => Nat.min_le_left _ _
  have missed : (missReply s.settings.staleLimit v).Ok := by
    unfold missReply ChannelStatus.Ok
    dsimp only
    split
    · exact ⟨reading, by dsimp only; omega, by dsimp only; omega⟩
    · split <;> exact ⟨reading, by dsimp only; omega, by dsimp only; omega⟩
  have clean : ∀ p, (cleanReply s.settings.recoverLimit (luxOf p) s.stamp v).Ok := by
    intro p
    unfold cleanReply
    dsimp only
    split
    · exact ⟨lux p, by dsimp only; omega, by dsimp only; omega⟩
    · exact ⟨lux p, by dsimp only; omega, recoveries⟩
    · exact ⟨lux p, by dsimp only; omega, recoveries⟩
    · split
      · exact ⟨lux p, by dsimp only; omega, by dsimp only; omega⟩
      · exact ⟨lux p, misses, by dsimp only; omega⟩
  cases w with
  | clean p =>
    unfold channelOutcome
    dsimp only
    split
    · exact missed
    · exact clean p
  | noisy p =>
    unfold channelOutcome
    dsimp only
    split
    · exact missed
    · exact ⟨lux p, misses, recoveries⟩
  | badFraming => exact missed
  | badCheck => exact missed
  | noReply => exact missed

theorem Lum.SameBut.ok {l m : Lum} (same : l.SameBut m) (output : m.output ≤ 1000) (ok : l.Ok) : m.Ok := by
  obtain ⟨base, -, sent, mismatches, misses⟩ := ok
  unfold Lum.SameBut at same
  rw [same]
  exact ⟨base, output, sent, mismatches, misses⟩

/-! ## Every step keeps the ranges (O9) -/

namespace State.RangesOk

variable {s t : State}

/-- The ranges read these five fields. -/
theorem same (h : s.RangesOk) (read : t.tables = s.tables ∧ t.lums = s.lums ∧ t.zones = s.zones ∧
    t.channels = s.channels ∧ t.emission = s.emission) : t.RangesOk := by
  obtain ⟨tables, lums, zones, channels, emission⟩ := read
  unfold State.RangesOk State.lum State.zone State.channel at h ⊢
  rwa [tables, lums, zones, channels, emission]

theorem ofQuiet (h : s.RangesOk) (f : Quiet s t) : t.RangesOk := by
  unfold Quiet at f
  exact h.same (by rw [f]; and_intros <;> rfl)

theorem ofUpstream (h : s.RangesOk) (f : UpstreamFrame s t) : t.RangesOk := by
  unfold UpstreamFrame at f
  exact h.same (by rw [f]; and_intros <;> rfl)

theorem ofRelay (h : s.RangesOk) (f : RelayFrame s t) : t.RangesOk := by
  unfold RelayFrame at f
  exact h.same (by rw [f]; and_intros <;> rfl)

/-- A change of entries keeps the ranges if each is left in range. -/
theorem ofRowMap (h : s.RangesOk) (f : RowMapFrame s t) (lums : ∀ a, (t.lum a).Ok) : t.RangesOk := by
  obtain ⟨tables, -, zones, channels, emission⟩ := h
  unfold RowMapFrame at f
  rw [f] at lums ⊢
  exact ⟨tables, lums, zones, channels, emission⟩

theorem setLum (h : s.RangesOk) (a : Addr) {l : Lum} (ok : l.Ok) : (s.setLum a l).RangesOk := by
  refine h.ofRowMap (setLum_frame s a l) fun b => ?_
  rw [lum_setLum]
  split
  · exact ok
  · exact h.2.1 b

theorem setZone (h : s.RangesOk) (z : ZoneId) {v : ZoneStatus} (ok : v.Ok) : (s.setZone z v).RangesOk := by
  obtain ⟨tables, lums, zones, channels, emission⟩ := h
  refine ⟨tables, lums, fun y => ?_, channels, emission⟩
  rw [zone_setZone]
  split
  · exact ok
  · exact zones y

theorem setChannel (h : s.RangesOk) (c : ChannelId) {v : ChannelStatus} (ok : v.Ok) :
    (s.setChannel c v).RangesOk := by
  obtain ⟨tables, lums, zones, channels, emission⟩ := h
  refine ⟨tables, lums, zones, fun d => ?_, emission⟩
  rw [channel_setChannel]
  split
  · exact ok
  · exact channels d

theorem putTables (h : s.RangesOk) {new : Tables} (inRange : new.inRange = true) :
    ({ s with tables := new } : State).RangesOk := by
  obtain ⟨-, rest⟩ := h
  exact ⟨inRange, rest⟩

theorem outputUpdate (h : s.RangesOk) (a : Addr) {o : Nat} (urgent : Bool) (fade : Fade) (output : o ≤ 1000) :
    (outputUpdate a o urgent fade s).RangesOk := by
  refine h.ofRowMap (outputUpdate_frame a o urgent fade s) fun b => ?_
  obtain ⟨other, stored, kept⟩ := outputUpdate_lum a b o urgent fade s
  by_cases e : b = a
  · rw [e]
    exact kept.ok (Nat.le_trans (Nat.le_of_eq stored) output) (h.2.1 a)
  · rw [other e]
    exact h.2.1 b

theorem recompute (h : s.RangesOk) (a : Addr) : (recompute s a).RangesOk :=
  h.outputUpdate a _ _ (outputOf_le h a)

theorem foldl_recompute (as : List Addr) (h : s.RangesOk) : (as.foldl Machine.recompute s).RangesOk := by
  induction as generalizing s with
  | nil => exact h
  | cons a as ih => exact ih (h.recompute a)

theorem absorb (h : s.RangesOk) {level : Nat} (small : level ≤ 1000) (fade : Fade) (a : Addr) :
    (absorb level fade s a).RangesOk := by
  obtain ⟨-, output, rest⟩ := h.2.1 a
  have stored : (s.setLum a { s.lum a with base := level, baseFade := fade }).RangesOk :=
    h.setLum a ⟨small, output, rest⟩
  exact stored.outputUpdate a true fade (outputOf_le stored a)

/-! ### Scans, passes and events -/

theorem scanRule : ScanRule State.RangesOk State.RangesOk := by
  refine .ofBlind (fun _ _ _ h => h.same ⟨rfl, rfl, rfl, rfl, rfl⟩) (fun s h => ?_)
    (fun _ a h => h.recompute a) (fun e s h => h.ofUpstream (noticeOf_frame e s))
  obtain ⟨tables, lums, zones, channels, emission⟩ := h
  refine ⟨tables, lums, fun z => ?_, channels, emission⟩
  rw [State.zone, Vector.getElem_ofFn]
  exact passZone_ok (zones z)

/-! ### The arbiter and the end of a level frame -/

theorem startCovered (h : s.RangesOk) {level : Nat} (small : level ≤ 1000) (a : Addr) :
    (startCovered level s a).RangesOk := by
  obtain ⟨base, output, -, counts⟩ := h.2.1 a
  have put := h.setLum a
    (l := { s.lum a with shadow := .inFlight, sent := level, sentValid := true, urgent := false })
    ⟨base, output, small, counts⟩
  exact put.ofRowMap (leavePending_frame _ a) put.2.1

theorem completeCovered (h : s.RangesOk) {level : Nat} (small : level ≤ 1000) (a : Addr) :
    (completeCovered level s a).RangesOk := by
  refine h.ofRowMap (completeCovered_frame level s a) fun b => ?_
  obtain ⟨base, output, -, counts⟩ := h.2.1 a
  rw [completeCovered_lum]
  split
  · split <;> exact ⟨base, output, small, counts⟩
  · exact h.2.1 b

theorem foldl {f : State → Addr → State} (step : ∀ {s : State} (a : Addr), s.RangesOk → (f s a).RangesOk)
    (as : List Addr) (h : s.RangesOk) : (as.foldl f s).RangesOk := by
  induction as generalizing s with
  | nil => exact h
  | cons a as ih => exact ih (step a h)

theorem emit (h : s.RangesOk) (unit : Byte) (head : Addr) (covered : List Addr) :
    (emit unit head covered s).RangesOk := by
  have level : (s.lum head).output ≤ 1000 := (h.2.1 head).2.1
  have record : ({ startRow (levelFrame s unit head) .level s with
      emission := some ⟨covered, (s.lum head).output⟩ } : State).RangesOk := by
    obtain ⟨tables, lums, zones, channels, -⟩ := h
    refine ⟨tables, lums, zones, channels, ?_⟩
    rintro m ⟨⟩
    exact level
  exact record.foldl (fun a k => k.startCovered level a) covered

theorem arbitrate (s : State) (h : s.RangesOk) : (arbitrate s).RangesOk := by
  refine arbitrate_induction (fun _ k => k.same ⟨rfl, rfl, rfl, rfl, rfl⟩)
    (fun _ unit head covered _ _ _ k => k.emit unit head covered) ?forward
    (fun _ _ _ _ _ k => k.same ⟨rfl, rfl, rfl, rfl, rfl⟩)
    (fun _ _ _ _ _ _ k => k.same ⟨rfl, rfl, rfl, rfl, rfl⟩)
    (fun _ _ _ _ _ _ k => k.same ⟨rfl, rfl, rfl, rfl, rfl⟩) s h
  intro s t e q _ _ frame k
  have started : (startRow e.frame .forward
      { s with forward := { e with onRow := true } :: q }).RangesOk := k.same ⟨rfl, rfl, rfl, rfl, rfl⟩
  refine started.ofRowMap frame.rowMap fun a => ?_
  obtain ⟨aligned, lum⟩ := frame.2 a
  rw [lum]
  exact started.2.1 a

/-! ### Power and restarts -/

theorem mapLuminaires (h : s.RangesOk) {f : Lum → Lum} (keeps : ∀ l : Lum, l.Ok → (f l).Ok) (a : Addr) :
    (if s.isLum a then f (s.lum a) else s.lum a).Ok := by
  split
  · exact keeps _ (h.2.1 a)
  · exact h.2.1 a

theorem rowMapReturned (h : s.RangesOk) : (rowMapReturned s).RangesOk :=
  h.ofRowMap (rowMapReturned_frame s) fun a => by
    rw [rowMapReturned_lum]
    exact h.mapLuminaires (f := Lum.return) (fun _ ok => ok) a

theorem rowMapLost (h : s.RangesOk) : (rowMapLost s).RangesOk :=
  h.ofRowMap (rowMapLost_frame s) fun a => by
    rw [rowMapLost_lum]
    exact h.mapLuminaires (f := Lum.lose) (fun _ ok => ok) a

theorem endScan (st : ScanState) (h : s.RangesOk) : (endScan st s).RangesOk :=
  h.same ⟨rfl, rfl, rfl, rfl, rfl⟩

theorem suspendScan (h : s.RangesOk) : (suspendScan s).RangesOk := h.same ⟨rfl, rfl, rfl, rfl, rfl⟩

theorem enterGap (h : s.RangesOk) : (enterGap s).RangesOk := h.same ⟨rfl, rfl, rfl, rfl, rfl⟩

theorem powered (h : s.RangesOk) (p : RowPower) : ({ s with power := p } : State).RangesOk :=
  h.same ⟨rfl, rfl, rfl, rfl, rfl⟩

theorem rowPortLost (h : s.RangesOk) : (rowPortLost s).RangesOk := by
  obtain ⟨tables, lums, zones, channels, -⟩ := h
  exact ⟨tables, lums, zones, channels, nofun⟩

theorem verifyLost (h : s.RangesOk) : (verifyLost s).RangesOk := h.same ⟨rfl, rfl, rfl, rfl, rfl⟩

theorem rowPowerLost (h : s.RangesOk) : (rowPowerLost s).RangesOk := by
  have suspended := (h.powered { s.power with present := false }).rowPortLost.rowMapLost.suspendScan
  exact scanRule.raise _ (suspended.ofRelay (flushForward_frame _)).verifyLost

theorem rowPowerReturned (h : s.RangesOk) : (rowPowerReturned s).RangesOk := by
  have returned := (h.powered { s.power with present := true }).enterGap.rowMapReturned
  exact scanRule.raise _ (scanRule.resumeScan (returned.endScan .idle))

theorem recomputeAll (h : s.RangesOk) : (recomputeAll s).RangesOk := by
  refine h.ofRowMap (by simp only [RowMapFrame, Machine.recomputeAll]) fun a => ?_
  simp only [Machine.recomputeAll, State.lum, Vector.getElem_ofFn]
  obtain ⟨base, output, rest⟩ := h.2.1 a
  split
  · exact ⟨base, outputOf_le h a, rest⟩
  · exact ⟨base, output, rest⟩

/-- The values of a restart are in range, if the tables and the levels kept are. -/
theorem of_restart (tables : s.tables.inRange = true) (zones : s.zones = restartZones s.tables)
    (channels : s.channels = Vector.replicate 8 .initial) (emission : s.emission = none)
    (lums : ∀ a, (s.lum a).Ok) : s.RangesOk := by
  refine ⟨tables, lums, fun z => ?_, fun c => ?_, ?_⟩
  · rw [State.zone, zones, restartZones, Vector.getElem_ofFn]
    exact ⟨Nat.le_refl _, Nat.zero_le _⟩
  · rw [State.channel, channels, Vector.getElem_replicate]
    exact ⟨Nat.zero_le _, Nat.zero_le _, Nat.zero_le _⟩
  · rw [emission]
    nofun

theorem powerOn (straps : Fin 16) (above : Bool) (s : State) : (powerOn straps above s).RangesOk := by
  have blocks : (bootState straps above s).RangesOk :=
    of_restart (loadTables_inRange s) rfl rfl rfl fun a => by
      rw [bootState_lum]
      exact ⟨Nat.le_refl _, Nat.le_refl _, Nat.zero_le _, Nat.zero_le _, Nat.zero_le _⟩
  unfold Machine.powerOn
  rw [powerOnBlocks_eq]
  exact scanRule.raise _ blocks

end State.RangesOk

/-- The warm-restart values of every block, before the outputs are recomputed. -/
def warmState (s : State) : State :=
  { s with
    clock := 0
    subMs := 0
    lums := Vector.ofFn fun a : Addr => (s.lum a).warm
    pendingList := []
    zones := restartZones s.tables
    channels := Vector.replicate 8 .initial
    scan := .initial
    rowTx := if s.power.present then .gap else .powerless
    rowActivity := s.portTime
    starvation := 0
    lowerTurn := false
    emission := none
    forward := []
    lastTag := 15
    tagsInUse := []
    upstream := []
    noticesLost := false
    lostSinceStart := false
    trunkTx := .idle
    answer := none
    trunkIdle := restartIdle s
    counters := .zero
    verify := .initial
    store := ⟨s.store.image, none, .none⟩
    snapshot := none
    restart := .none }

theorem warmBlocks_eq (s : State) : warmBlocks s = recomputeAll (warmState s) := rfl

@[simp] theorem warmState_lum (s : State) (a : Addr) : (warmState s).lum a = (s.lum a).warm := by
  simp [State.lum, warmState]

namespace State.RangesOk

variable {s : State}

theorem warmBlocks (h : s.RangesOk) : (warmBlocks s).RangesOk := by
  rw [warmBlocks_eq]
  refine recomputeAll (of_restart h.1 rfl rfl rfl fun a => ?_)
  rw [warmState_lum]
  obtain ⟨base, output, sent, -, -⟩ := h.2.1 a
  exact ⟨base, output, sent, Nat.zero_le _, Nat.zero_le _⟩

theorem warmRestart (h : s.RangesOk) : (warmRestart s).RangesOk := by
  have blocks := h.warmBlocks
  unfold Machine.warmRestart
  dsimp only
  refine scanRule.raise _ ?_
  split
  · exact scanRule.resumeScan (blocks.rowMapReturned.endScan .idle)
  · exact blocks

/-! ### Writes -/

theorem leaveLuminaire (h : s.RangesOk) (a : Addr) : (leaveLuminaire a s).RangesOk := by
  have put := h.setLum a (l := (s.lum a).lose) (h.2.1 a)
  exact put.ofRowMap (leavePending_frame _ a) put.2.1

theorem disregardAlignment (h : s.RangesOk) (a : Addr) : (disregardAlignment a s).RangesOk := by
  unfold Machine.disregardAlignment
  split
  · split
    · exact h.same ⟨rfl, rfl, rfl, rfl, rfl⟩
    · exact h
  · exact h

theorem newLuminaire (h : s.RangesOk) (a : Addr) : (newLuminaire a s).RangesOk := by
  obtain ⟨-, output, sent, -⟩ := h.2.1 a
  have fresh := h.setLum a (l := (s.lum a).fresh) ⟨Nat.le_refl _, output, sent, Nat.zero_le _, Nat.zero_le _⟩
  obtain ⟨base, -, rest⟩ := fresh.2.1 a
  unfold Machine.newLuminaire
  dsimp only
  split
  · have put := fresh.setLum a (l := { (s.setLum a (s.lum a).fresh).lum a with
      output := (s.setLum a (s.lum a).fresh).outputOf a, shadow := .pending })
      ⟨base, outputOf_le fresh a, rest⟩
    exact put.ofRowMap (joinPending_frame _ a) put.2.1
  · exact fresh.setLum a ⟨base, outputOf_le fresh a, rest⟩

theorem revisedLuminaire (h : s.RangesOk) (a : Addr) (old new : RowConfig) :
    (revisedLuminaire a old new s).RangesOk := by
  unfold Machine.revisedLuminaire
  dsimp only
  have aligned : (if old.zone = new.zone then s
      else s.setLum a { s.lum a with aligned := false }).RangesOk := by
    split
    · exact h
    · exact h.setLum a (h.2.1 a)
  split
  · exact aligned
  · exact aligned.recompute a

theorem rowWrite (h : s.RangesOk) (a : Addr) {r : RowConfig} (ok : r.inRange = true) :
    (applyRowWrite a r s).RangesOk := by
  have put : (s.setRow a r).RangesOk := h.putTables (Tables.inRange_setRow h.1 a ok)
  unfold applyRowWrite
  dsimp only
  split
  · exact put.revisedLuminaire a _ _
  · exact (put.leaveLuminaire a).disregardAlignment a
  · exact put.newLuminaire a
  · exact put

theorem recomputeZone (h : s.RangesOk) (z : ZoneId) : (recomputeZone z s).RangesOk := h.foldl_recompute _

theorem bindZone (h : s.RangesOk) (z : ZoneId) : (bindZone z s).RangesOk :=
  (h.setZone z ⟨Nat.le_refl _, Nat.zero_le _⟩).recomputeZone z

theorem unbindZone (h : s.RangesOk) (z : ZoneId) : (unbindZone z s).RangesOk :=
  (h.setZone z (v := { s.zone z with mode := .unbound }) (h.2.2.1 z)).recomputeZone z

theorem zoneWrite (h : s.RangesOk) (z : ZoneId) {c : ZoneConfig} (ok : c.inRange = true) :
    (applyZoneWrite z c s).RangesOk := by
  have put : (s.setZoneConfig z c).RangesOk := h.putTables (Tables.inRange_setZone h.1 z ok)
  unfold applyZoneWrite
  dsimp only
  split
  · exact put.bindZone z
  · exact put.unbindZone z
  · exact put
  · exact put

theorem changeMode (h : s.RangesOk) {change : ZoneStatus → ZoneStatus} (c : ZoneChange change) (z : ZoneId) :
    (changeMode change s z).RangesOk := by
  unfold Machine.changeMode
  split
  · exact h
  · exact (h.setZone z (c.ok (h.2.2.1 z))).recomputeZone z

theorem disregardQuery (h : s.RangesOk) (c : ChannelId) : (disregardQuery c s).RangesOk := by
  unfold Machine.disregardQuery
  split
  · exact h.same ⟨rfl, rfl, rfl, rfl, rfl⟩
  · exact h

theorem channelWrite (h : s.RangesOk) (c : ChannelId) {v : ChannelConfig} (ok : v.inRange = true) :
    (applyChannelWrite c v s).RangesOk := by
  have put : (s.setChannelConfig c v).RangesOk := h.putTables (Tables.inRange_setChannel h.1 c ok)
  unfold applyChannelWrite
  dsimp only
  split
  · exact put
  · have reset := put.setChannel c (v := .initial) ⟨Nat.zero_le _, Nat.zero_le _, Nat.zero_le _⟩
    exact scanRule.reviseScan (reset.disregardQuery c)

theorem settingsWrite (h : s.RangesOk) (k : Fin 1) {t : Settings} (ok : t.inRange = true) :
    (applySettingsWrite k t s).RangesOk := by
  have put : ({ s with tables := { s.tables with settings := t } } : State).RangesOk :=
    h.putTables (Tables.inRange_settings h.1 ok)
  exact scanRule.applySettingsWrite k t (fun _ _ => put.same ⟨rfl, rfl, rfl, rfl, rfl⟩) put

/-! ### Completions and outcomes -/

theorem finishLevel (h : s.RangesOk) : (finishLevel s).RangesOk := by
  unfold Machine.finishLevel
  split
  · exact h.enterGap
  · next m record =>
    obtain ⟨tables, lums, zones, channels, -⟩ :=
      h.foldl (fun a k => k.completeCovered (h.2.2.2.2 m record) a) m.covered
    exact enterGap ⟨tables, lums, zones, channels, nofun⟩

theorem recoverLimit_le (h : s.RangesOk) : s.settings.recoverLimit ≤ 15 := by
  obtain ⟨-, -, -, -, -, settings⟩ := (Tables.inRange_iff _).mp h.1
  simp only [Settings.inRange, decide_eq_true_eq] at settings
  exact settings.2.2.2.2.2.2.2.2.1

theorem closeScan (h : s.RangesOk) (c : ChannelId) (w : WindowOutcome) :
    (scanOutcome c (channelOutcome w) s).RangesOk :=
  scanRule.scanOutcome_of_blind (fun _ _ _ k => k.same ⟨rfl, rfl, rfl, rfl, rfl⟩) c _
    (h.setChannel c (channelAfter_ok s w h.recoverLimit_le (h.2.2.2.1 c))) h

theorem judged (h : s.RangesOk) (a : Addr) {l : Lum} (same : (s.lum a).Judged l) : (s.setLum a l).RangesOk := by
  obtain ⟨base, output, sent, mismatches, misses⟩ := h.2.1 a
  obtain ⟨kept, fewMismatches, fewMisses⟩ := same
  refine h.setLum a ⟨?_, ?_, ?_, by omega, by omega⟩ <;> rw [kept] <;> assumption

theorem reportMismatch (h : s.RangesOk) (a : Addr) : (reportMismatch a s).RangesOk := by
  have put := h.setLum a (l := { s.lum a with
    shadow := .pending, sentValid := false, urgent := false, emissionFade := s.updateFade a }) (h.2.1 a)
  exact put.ofRowMap (joinPending_frame _ a) put.2.1

theorem closeVerify (h : s.RangesOk) (o : WindowOutcome) : (verifyOutcome o s).RangesOk :=
  scanRule.verifyOutcome (fun _ a _ same k => k.judged a same) (fun _ a _ _ k => k.reportMismatch a) o
    (h.same ⟨rfl, rfl, rfl, rfl, rfl⟩) fun _ => h

theorem closeAlignment (h : s.RangesOk) (o : WindowOutcome) : (alignOutcome o s).RangesOk := by
  unfold alignOutcome
  split
  · exact h
  · next r _ =>
    dsimp only
    split
    · split
      · exact (h.setLum r.addr (l := { s.lum r.addr with aligned := true }) (h.2.1 r.addr)).same
          ⟨rfl, rfl, rfl, rfl, rfl⟩
      · exact h.same ⟨rfl, rfl, rfl, rfl, rfl⟩
    · exact h.same ⟨rfl, rfl, rfl, rfl, rfl⟩

theorem saturate (h : s.RangesOk) : (saturateStamps s).RangesOk := by
  obtain ⟨tables, lums, zones, channels, emission⟩ := h
  refine ⟨tables, lums, fun z => ?_, fun c => ?_, emission⟩
  · rw [State.zone, saturateStamps, Vector.getElem_ofFn]
    exact zones z
  · rw [State.channel, saturateStamps, Vector.getElem_ofFn]
    exact channels c

end State.RangesOk

/-- Every command keeps the ranges. -/
theorem rangesRule : StepRule State.RangesOk State.RangesOk where
  start _ h := h
  quietBefore := State.RangesOk.ofQuiet
  quiet := State.RangesOk.ofQuiet
  countBefore _ _ _ h := h.same ⟨rfl, rfl, rfl, rfl, rfl⟩
  count _ _ _ h := h.same ⟨rfl, rfl, rfl, rfl, rfl⟩
  powerOn straps above s _ := .powerOn straps above s
  warmRestart _ h := h.warmRestart
  rowPowerLost _ h := h.rowPowerLost
  rowPowerReturned _ _ h := h.rowPowerReturned
  startHead s h := by
    unfold startHead
    split
    · exact h
    · exact h.same ⟨rfl, rfl, rfl, rfl, rfl⟩
  loseHead _ h := h.same ⟨rfl, rfl, rfl, rfl, rfl⟩
  finishSending _ _ h := h.same ⟨rfl, rfl, rfl, rfl, rfl⟩
  absorb _ fade _ a small h := h.absorb small fade a
  forwardUntagged f s h := h.ofRelay (forwardUntagged_frame f s)
  defer f s _ h := h.ofRelay (defer_frame f s)
  rowWrite a _ _ ok h := h.rowWrite a ok
  zoneWrite z _ _ ok h := h.zoneWrite z ok
  channelWrite c _ _ ok h := h.channelWrite c ok
  groupWrite _ _ _ h := h.putTables h.1
  routeWrite k _ _ ok h := h.putTables (Tables.inRange_setRoute h.1 k ok)
  settingsWrite k _ _ ok h := h.settingsWrite k ok
  loadRow z _ _ ok h := h.putTables (Tables.inRange_setCoeffs h.1 z (ok h.1))
  changeMode _ _ z change _ h := h.changeMode change z
  trigger urgent _ h := State.RangesOk.scanRule.trigger urgent h
  takeTick _ h := State.RangesOk.scanRule.takeTick h
  raise e _ h := State.RangesOk.scanRule.raise e h
  arbitrate s h := h.arbitrate
  ready _ _ h := h.same ⟨rfl, rfl, rfl, rfl, rfl⟩
  leaveReady _ _ h := h.same ⟨rfl, rfl, rfl, rfl, rfl⟩
  finishLevel _ _ _ _ h := h.finishLevel
  popForward s _ _ _ _ h := (h.ofRelay (popForward_frame s)).enterGap
  closeDeferred s _ e _ o _ _ _ h :=
    (h.ofRelay (popForward_frame s)).enterGap.ofUpstream (deferredOutcome_frame e o _)
  closeScan _ _ c w _ _ h := h.enterGap.closeScan c w
  closeVerify _ _ o _ _ h := h.enterGap.closeVerify o
  closeAlignment _ _ o _ _ h := h.enterGap.closeAlignment o
  expire t s h := h.ofRelay (expire_frame t s)
  saturate _ h := h.saturate

/-- Settles O9: every command keeps the ranges, by its parts. -/
theorem stepKeepsRanges : Obligations.StepKeepsRanges :=
  fun _ _ => rangesRule.step fun _ _ h => h.same ⟨rfl, rfl, rfl, rfl, rfl⟩

end Machine
end Sys2Proof

namespace Sys2Proof.Machine

/-! ## Every step keeps the modes that belong together (O10) -/

/-- A pass leaves a zone unbound exactly if it was (R65, R82). -/
theorem passZone_unbound (s : State) (z : ZoneId) :
    (passZone s z).mode = .unbound ↔ (s.zone z).mode = .unbound := by
  unfold passZone
  dsimp only
  split
  · next unbound => exact Iff.rfl
  · next bound =>
    cases mode : (s.zone z).mode with
    | unbound => exact absurd mode bound
    | track => cases isBlind s z <;> simp [modeAfterBlind]
    | failsafe => cases isBlind s z <;> simp [modeAfterBlind]
    | hold => cases isBlind s z <;> simp [modeAfterBlind]
    | manual => cases isBlind s z <;> simp [modeAfterBlind]

namespace State.ModesOk

variable {s t : State}

/-- The modes read these fields; a change of zones is one that binds none and unbinds none. -/
theorem same (h : s.ModesOk)
    (zones : ∀ z, (t.zone z).mode = .unbound ↔ (s.zone z).mode = .unbound)
    (configs : ∀ z, (t.zoneConfig z).inUse = (s.zoneConfig z).inUse)
    (read : t.scan.state = s.scan.state ∧ t.power.present = s.power.present ∧ t.rowTx = s.rowTx) :
    t.ModesOk := by
  obtain ⟨bound, scan, row⟩ := h
  obtain ⟨state, present, tx⟩ := read
  refine ⟨fun z => ?_, ?_, ?_⟩
  · rw [zones, configs]
    exact bound z
  · rwa [state, present]
  · rwa [tx, present]

/-- A change of other fields keeps the modes. -/
theorem frame (h : s.ModesOk) (zones : t.zones = s.zones) (tables : t.tables = s.tables)
    (read : t.scan.state = s.scan.state ∧ t.power.present = s.power.present ∧ t.rowTx = s.rowTx) :
    t.ModesOk := by
  refine h.same (fun z => ?_) (fun z => ?_) read
  · rw [State.zone, State.zone, zones]
  · rw [State.zoneConfig, State.zoneConfig, tables]

theorem ofQuiet (h : s.ModesOk) (f : Quiet s t) : t.ModesOk := by
  unfold Quiet at f
  exact h.frame (by rw [f]) (by rw [f]) (by rw [f]; and_intros <;> rfl)

theorem ofRowMap (h : s.ModesOk) (f : RowMapFrame s t) : t.ModesOk := by
  unfold RowMapFrame at f
  exact h.frame (by rw [f]) (by rw [f]) (by rw [f]; and_intros <;> rfl)

theorem ofUpstream (h : s.ModesOk) (f : UpstreamFrame s t) : t.ModesOk := by
  unfold UpstreamFrame at f
  exact h.frame (by rw [f]) (by rw [f]) (by rw [f]; and_intros <;> rfl)

theorem ofRelay (h : s.ModesOk) (f : RelayFrame s t) : t.ModesOk := by
  unfold RelayFrame at f
  exact h.frame (by rw [f]) (by rw [f]) (by rw [f]; and_intros <;> rfl)

/-- A row frame that starts or ends leaves the transmitter powered as it was. -/
theorem row (h : s.ModesOk) {tx : RowTx} (powered : tx = .powerless ↔ s.rowTx = .powerless) :
    ({ s with rowTx := tx } : State).ModesOk := by
  obtain ⟨bound, scan, row⟩ := h
  exact ⟨bound, scan, powered.trans row⟩

theorem enterGap (h : s.ModesOk) (powered : s.rowTx ≠ .powerless) : (enterGap s).ModesOk := by
  obtain ⟨bound, scan, row⟩ := h
  exact ⟨bound, scan, ⟨nofun, fun absent => absurd (row.mpr absent) powered⟩⟩

end State.ModesOk

/-- The modes, while the scan controller is not SUSPENDED. -/
def State.ModesFree (s : State) : Prop := s.ModesOk ∧ s.scan.state ≠ .suspended

/-- A scan in row power is of the states that belong to it. -/
theorem State.ModesFree.moved {s : State} (h : s.ModesFree) {c : Scan} (turn : Bool)
    (free : c.state ≠ .suspended) : ({ s with scan := c, lowerTurn := turn } : State).ModesFree := by
  obtain ⟨⟨bound, scan, row⟩, present⟩ := h
  exact ⟨⟨bound, ⟨fun c => absurd c free, fun absent => absurd (scan.mpr absent) present⟩, row⟩, free⟩

/-- Scans, passes and events keep the modes. -/
theorem modesScanRule : ScanRule State.ModesOk State.ModesFree where
  weaken h := h.1
  free h _ free := ⟨h, free⟩
  idle h idle := ⟨h, by rw [idle]; exact nofun⟩
  marks s _ _ _ _ _ h := h.frame rfl rfl ⟨rfl, rfl, rfl⟩
  marksFree s _ _ _ _ _ h := ⟨h.1.frame rfl rfl ⟨rfl, rfl, rfl⟩, h.2⟩
  opened s c turn _ state h := h.moved turn (by obtain e | e := state <;> rw [e] <;> exact nofun)
  zones s h := by
    refine ⟨h.1.same (fun z => ?_) (fun _ => rfl) ⟨rfl, rfl, rfl⟩, h.2⟩
    rw [State.zone, Vector.getElem_ofFn]
    exact passZone_unbound s z
  recompute s a h := by
    refine ⟨h.1.ofRowMap (recompute_frame s a), ?_⟩
    obtain ⟨-, -, -, -, -, scan⟩ := (recompute_frame s a).keeps
    rw [scan]
    exact h.2
  notice e s h := h.ofUpstream (noticeOf_frame e s)
  noticeFree e s h := by
    refine ⟨h.1.ofUpstream (noticeOf_frame e s), ?_⟩
    have frame := noticeOf_frame e s
    unfold UpstreamFrame at frame
    rw [frame]
    exact h.2

/-- The zones of a restart are bound exactly while in use (R63, R82). -/
theorem restartZones_unbound {s : State} (zones : s.zones = restartZones s.tables) (z : ZoneId) :
    (s.zone z).mode = .unbound ↔ (s.zoneConfig z).inUse = false := by
  rw [State.zone, zones, restartZones, Vector.getElem_ofFn]
  unfold restartZone State.zoneConfig
  cases s.tables.zones[z.val].inUse <;> simp

namespace State.ModesOk

variable {s t : State}

/-! ### Power and restarts -/

theorem powerOn (straps : Fin 16) (above : Bool) (s : State) : (powerOn straps above s).ModesOk := by
  have blocks : (bootState straps above s).ModesOk :=
    ⟨restartZones_unbound rfl, ⟨fun _ => rfl, fun _ => rfl⟩, ⟨fun _ => rfl, fun _ => rfl⟩⟩
  unfold Machine.powerOn
  rw [powerOnBlocks_eq]
  exact modesScanRule.raise _ blocks

theorem recomputeAll_frame (s : State) : RowMapFrame s (recomputeAll s) := by
  simp only [RowMapFrame, Machine.recomputeAll]

theorem warmRestart (s : State) : (warmRestart s).ModesOk := by
  have bound : ∀ z, ((warmState s).zone z).mode = .unbound ↔ ((warmState s).zoneConfig z).inUse = false :=
    restartZones_unbound rfl
  unfold Machine.warmRestart
  dsimp only
  refine modesScanRule.raise _ ?_
  rw [warmBlocks_eq]
  have blocks : RowMapFrame (warmState s) (recomputeAll (warmState s)) := recomputeAll_frame _
  have power : (recomputeAll (warmState s)).power = s.power := blocks.keeps.2.2.2.2.1
  rw [power]
  split
  · next present =>
    have idle : (endScan .idle (warmState s)).ModesOk := by
      refine ⟨bound, ⟨nofun, fun absent => ?_⟩, ⟨fun off => ?_, fun absent => ?_⟩⟩
      · exact absurd (present.symm.trans absent) nofun
      · simp [warmState, present] at off
      · exact absurd (present.symm.trans absent) nofun
    refine modesScanRule.resumeScan (idle.ofRowMap ?_)
    have returned := blocks.trans (rowMapReturned_frame _)
    unfold RowMapFrame at returned ⊢
    rw [returned]
    rfl
  · next off =>
    have absent : s.power.present = false := Bool.eq_false_iff.mpr off
    exact State.ModesOk.ofRowMap ⟨bound, ⟨fun _ => absent, fun _ => rfl⟩,
      ⟨fun _ => absent, fun _ => by simp [warmState, absent]⟩⟩ blocks

theorem rowPowerLost (h : s.ModesOk) : (rowPowerLost s).ModesOk := by
  have suspended : (suspendScan (rowPortLost { s with power := { s.power with present := false } })).ModesOk :=
    ⟨h.1, ⟨fun _ => rfl, fun _ => rfl⟩, ⟨fun _ => rfl, fun _ => rfl⟩⟩
  have lost : RowMapFrame (suspendScan (rowPortLost { s with power := { s.power with present := false } }))
      (suspendScan (rowMapLost (rowPortLost { s with power := { s.power with present := false } }))) := by
    simp only [RowMapFrame, Machine.rowMapLost, State.mapLuminaires]
    rfl
  have flushed := (suspended.ofRowMap lost).ofRelay (flushForward_frame _)
  have closed := flushed.frame (t := verifyLost _) rfl rfl ⟨rfl, rfl, rfl⟩
  exact modesScanRule.raise _ closed

theorem rowPowerReturned (h : s.ModesOk) : (rowPowerReturned s).ModesOk := by
  have idle : (endScan .idle (Machine.enterGap { s with power := { s.power with present := true } })).ModesOk :=
    ⟨h.1, ⟨nofun, nofun⟩, ⟨nofun, nofun⟩⟩
  have returned : RowMapFrame
      (endScan .idle (Machine.enterGap { s with power := { s.power with present := true } }))
      (endScan .idle (rowMapReturned (Machine.enterGap { s with power := { s.power with present := true } }))) := by
    simp only [RowMapFrame, Machine.rowMapReturned, State.mapLuminaires]
    rfl
  exact modesScanRule.raise _ (modesScanRule.resumeScan (idle.ofRowMap returned))

/-! ### Writes -/

theorem rowWrite (h : s.ModesOk) (a : Addr) (r : RowConfig) : (applyRowWrite a r s).ModesOk := by
  have put : (s.setRow a r).ModesOk := h.same (fun _ => Iff.rfl) (fun _ => rfl) ⟨rfl, rfl, rfl⟩
  have revised : ∀ old, RowMapFrame (s.setRow a r) (revisedLuminaire a old r (s.setRow a r)) := by
    intro old
    unfold revisedLuminaire
    dsimp only
    split
    · split <;> exact rfl
    · refine RowMapFrame.trans ?_ (recompute_frame _ a)
      split <;> exact rfl
  unfold applyRowWrite
  dsimp only
  split
  · exact put.ofRowMap (revised _)
  · have left := put.ofRowMap (leaveLuminaire_frame a _)
    unfold disregardAlignment
    split
    · split
      · exact left.frame rfl rfl ⟨rfl, rfl, rfl⟩
      · exact left
    · exact left
  · refine put.ofRowMap ?_
    unfold newLuminaire
    dsimp only
    split <;> exact rfl
  · exact put

/-- A zone's new mode beside its new configuration (R62, R82 to R84). -/
theorem setZone (h : s.ModesOk) (z : ZoneId) {c : ZoneConfig} {v : ZoneStatus}
    (bound : v.mode = .unbound ↔ c.inUse = false) : ((s.setZoneConfig z c).setZone z v).ModesOk := by
  obtain ⟨bounds, scan, row⟩ := h
  refine ⟨fun y => ?_, scan, row⟩
  have config : ((s.setZoneConfig z c).setZone z v).zoneConfig y = if y = z then c else s.zoneConfig y := by
    simp only [State.zoneConfig, setZone_tables, setZoneConfig_tables, Vector.getElem_set]
    by_cases e : z = y
    · simp [e]
    · simp [Fin.val_ne_of_ne e, Ne.symm e]
  rw [zone_setZone, config]
  by_cases e : y = z
  · rw [if_pos e, if_pos e]
    exact bound
  · rw [if_neg e, if_neg e]
    exact bounds y

theorem zoneWrite (h : s.ModesOk) (z : ZoneId) (c : ZoneConfig) : (applyZoneWrite z c s).ModesOk := by
  have kept : (s.zoneConfig z).inUse = c.inUse → (s.setZoneConfig z c).ModesOk := by
    intro use
    have put := h.setZone z (c := c) (v := s.zone z) ((h.1 z).trans (by rw [use]))
    refine put.same (fun y => ?_) (fun _ => rfl) ⟨rfl, rfl, rfl⟩
    rw [zone_setZone]
    by_cases e : y = z
    · rw [if_pos e, e]
      rfl
    · rw [if_neg e]
  unfold applyZoneWrite
  dsimp only
  split
  · next use => exact (h.setZone z (by rw [use]; simp)).ofRowMap (recomputeZone_frame z _)
  · next use => exact (h.setZone z (by rw [use]; simp)).ofRowMap (recomputeZone_frame z _)
  · next was use => exact kept (was.trans use.symm)
  · next was use => exact kept (was.trans use.symm)

theorem changeMode (h : s.ModesOk) {change : ZoneStatus → ZoneStatus} (c : ZoneChange change) (z : ZoneId)
    (bound : (s.zone z).mode ≠ .unbound) : (changeMode change s z).ModesOk := by
  unfold Machine.changeMode
  split
  · exact h
  · refine State.ModesOk.ofRowMap ?_ (recomputeZone_frame z _)
    refine h.same (fun y => ?_) (fun _ => rfl) ⟨rfl, rfl, rfl⟩
    rw [zone_setZone]
    by_cases e : y = z
    · rw [if_pos e, e]
      exact ⟨fun u => absurd u (c.bound bound), fun u => absurd u bound⟩
    · rw [if_neg e]

theorem channelWrite (h : s.ModesOk) (c : ChannelId) (v : ChannelConfig) :
    (applyChannelWrite c v s).ModesOk := by
  have put : ((s.setChannelConfig c v).setChannel c .initial).ModesOk :=
    h.same (fun _ => Iff.rfl) (fun _ => rfl) ⟨rfl, rfl, rfl⟩
  unfold applyChannelWrite
  dsimp only
  split
  · exact h.same (fun _ => Iff.rfl) (fun _ => rfl) ⟨rfl, rfl, rfl⟩
  · refine modesScanRule.reviseScan ?_
    unfold disregardQuery
    split
    · exact put.frame rfl rfl ⟨rfl, rfl, rfl⟩
    · exact put

theorem settingsWrite (h : s.ModesOk) (k : Fin 1) (t : Settings) : (applySettingsWrite k t s).ModesOk := by
  have put : ({ s with tables := { s.tables with settings := t } } : State).ModesOk :=
    h.same (fun _ => Iff.rfl) (fun _ => rfl) ⟨rfl, rfl, rfl⟩
  refine modesScanRule.applySettingsWrite k t (fun scanning _ => ?_) put
  have free : ({ s with tables := { s.tables with settings := t } } : State).ModesFree :=
    ⟨put, by rw [scanning]; exact nofun⟩
  exact (free.moved s.lowerTurn (c := { s.scan with state := .stopping }) nofun).1

/-! ### Completions and outcomes -/

theorem arbitrate (s : State) (h : s.ModesOk) : (arbitrate s).ModesOk := by
  have started : ∀ {s t : State} {f : RowFrame}, s.rowTx = .ready → t.zones = s.zones → t.tables = s.tables →
      t.scan.state = s.scan.state → t.power = s.power → t.rowTx = .onRow f → s.ModesOk → t.ModesOk := by
    intro s t f ready zones tables state power row k
    have put := k.row (tx := .onRow f) (by simp [ready])
    exact put.frame zones tables ⟨state, congrArg RowPower.present power, row⟩
  refine arbitrate_induction (fun _ k => k.frame rfl rfl ⟨rfl, rfl, rfl⟩) ?level ?forward
    (fun _ _ _ ready _ k => started ready rfl rfl rfl rfl rfl k)
    (fun _ _ _ ready _ _ k => started ready rfl rfl rfl rfl rfl k)
    (fun _ _ _ ready _ _ k => started ready rfl rfl rfl rfl rfl k) s h
  case level =>
    intro s unit head covered ready _ _ k
    have record : ({ startRow (levelFrame s unit head) .level s with
        emission := some ⟨covered, (s.lum head).output⟩ } : State).ModesOk :=
      started ready rfl rfl rfl rfl rfl k
    exact record.ofRowMap (RowMapFrame.foldl (startCovered_frame _) covered _)
  case forward =>
    intro s t e q ready _ frame k
    have onRow : (startRow e.frame .forward { s with forward := { e with onRow := true } :: q }).ModesOk :=
      started ready rfl rfl rfl rfl rfl k
    exact onRow.ofRowMap frame.rowMap

theorem finishLevel (h : s.ModesOk) (powered : s.rowTx ≠ .powerless) : (finishLevel s).ModesOk := by
  unfold Machine.finishLevel
  split
  · exact h.enterGap powered
  · next m _ =>
    have frame := RowMapFrame.foldl (completeCovered_frame m.level) m.covered s
    have completed := h.ofRowMap frame
    have row : (m.covered.foldl (completeCovered m.level) s).rowTx = s.rowTx := by
      unfold RowMapFrame at frame
      rw [frame]
    have emptied : ({ m.covered.foldl (completeCovered m.level) s with emission := none } : State).ModesOk :=
      completed.frame rfl rfl ⟨rfl, rfl, rfl⟩
    exact emptied.enterGap (row ▸ powered)

theorem closeScan (h : s.ModesOk) (c : ChannelId) (o : ChannelOutcome) : (scanOutcome c o s).ModesOk := by
  unfold scanOutcome
  dsimp only
  have recorded : (if s.scan.disregard = true then s else recordOutcome c o s).ModesOk := by
    split
    · exact h
    · exact modesScanRule.recordOutcome c o (h.frame rfl rfl ⟨rfl, rfl, rfl⟩)
  split
  · next scanning =>
    have free : (if s.scan.disregard = true then s else recordOutcome c o s).ModesFree :=
      ⟨recorded, by rw [scanning]; exact nofun⟩
    exact (modesScanRule.advanceScan (free.moved _ (by dsimp only; rw [scanning]; exact nofun))).1
  · next stopping =>
    have free : (if s.scan.disregard = true then s else recordOutcome c o s).ModesFree :=
      ⟨recorded, by rw [stopping]; exact nofun⟩
    exact (modesScanRule.leaveStopping (free.moved _ nofun)).1
  · exact recorded
  · exact recorded

theorem closeVerify (h : s.ModesOk) (o : WindowOutcome) : (verifyOutcome o s).ModesOk :=
  modesScanRule.verifyOutcome (fun s a l _ k => k.ofRowMap (setLum_frame s a l))
    (fun s a _ _ k => k.ofRowMap (reportMismatch_frame a s)) o
    (h.frame rfl rfl ⟨rfl, rfl, rfl⟩) fun _ => h

theorem closeAlignment (h : s.ModesOk) (o : WindowOutcome) : (alignOutcome o s).ModesOk := by
  unfold alignOutcome
  split
  · exact h
  · dsimp only
    split
    · split <;> exact h.frame rfl rfl ⟨rfl, rfl, rfl⟩
    · exact h.frame rfl rfl ⟨rfl, rfl, rfl⟩

theorem saturate (h : s.ModesOk) : (saturateStamps s).ModesOk := by
  refine h.same (fun z => ?_) (fun _ => rfl) ⟨rfl, rfl, rfl⟩
  rw [State.zone, saturateStamps, Vector.getElem_ofFn]
  exact Iff.rfl

end State.ModesOk

theorem powered_of_onRow {s : State} {f : RowFrame} (row : s.rowTx = .onRow f) : s.rowTx ≠ .powerless := by
  rw [row]
  nofun

/-- Every command keeps the modes that belong together. -/
theorem modesRule : StepRule State.ModesOk State.ModesOk where
  start _ h := h
  quietBefore := State.ModesOk.ofQuiet
  quiet := State.ModesOk.ofQuiet
  countBefore _ _ _ h := h.frame rfl rfl ⟨rfl, rfl, rfl⟩
  count _ _ _ h := h.frame rfl rfl ⟨rfl, rfl, rfl⟩
  powerOn straps above s _ := .powerOn straps above s
  warmRestart s _ := .warmRestart s
  rowPowerLost _ h := h.rowPowerLost
  rowPowerReturned _ _ h := h.rowPowerReturned
  startHead s h := by
    unfold startHead
    split
    · exact h
    · exact h.frame rfl rfl ⟨rfl, rfl, rfl⟩
  loseHead _ h := h.frame rfl rfl ⟨rfl, rfl, rfl⟩
  finishSending _ _ h := h.frame rfl rfl ⟨rfl, rfl, rfl⟩
  absorb level fade s a _ h := h.ofRowMap (absorb_frame level fade s a)
  forwardUntagged f s h := h.ofRelay (forwardUntagged_frame f s)
  defer f s _ h := h.ofRelay (defer_frame f s)
  rowWrite a r _ _ h := h.rowWrite a r
  zoneWrite z c _ _ h := h.zoneWrite z c
  channelWrite c v _ _ h := h.channelWrite c v
  groupWrite _ _ _ h := h.same (fun _ => Iff.rfl) (fun _ => rfl) ⟨rfl, rfl, rfl⟩
  routeWrite _ _ _ _ h := h.same (fun _ => Iff.rfl) (fun _ => rfl) ⟨rfl, rfl, rfl⟩
  settingsWrite k t _ _ h := h.settingsWrite k t
  loadRow _ _ _ _ h := h.same (fun _ => Iff.rfl) (fun _ => rfl) ⟨rfl, rfl, rfl⟩
  changeMode _ _ z change bound h := h.changeMode change z bound
  trigger urgent _ h := modesScanRule.trigger urgent h
  takeTick _ h := modesScanRule.takeTick h
  raise e _ h := modesScanRule.raise e h
  arbitrate s h := h.arbitrate
  ready _ gap h := h.row (by simp [gap])
  leaveReady _ ready h := h.row (by simp [ready])
  finishLevel _ _ row _ h := h.finishLevel (powered_of_onRow row)
  popForward s _ row _ _ h := (h.ofRelay (popForward_frame s)).enterGap (powered_of_onRow row)
  closeDeferred s _ e _ o row _ _ h :=
    ((h.ofRelay (popForward_frame s)).enterGap (powered_of_onRow row)).ofUpstream (deferredOutcome_frame e o _)
  closeScan _ _ c _ row _ h := (h.enterGap (powered_of_onRow row)).closeScan c _
  closeVerify _ _ o row _ h := (h.enterGap (powered_of_onRow row)).closeVerify o
  closeAlignment _ _ o row _ h := (h.enterGap (powered_of_onRow row)).closeAlignment o
  expire t s h := h.ofRelay (expire_frame t s)
  saturate _ h := h.saturate

/-- Settles O10: every command keeps the modes, by its parts. -/
theorem stepKeepsModes : Obligations.StepKeepsModes :=
  fun _ _ => modesRule.step fun _ _ h => h.frame rfl rfl ⟨rfl, rfl, rfl⟩

end Sys2Proof.Machine

namespace Sys2Proof.Machine

/-! ## Every step keeps the row's records in agreement with the frame there (O12) -/

@[simp] theorem owner_of_onRow {s : State} {f : RowFrame} (row : s.rowTx = .onRow f) :
    s.owner = some f.owner := by
  unfold State.owner
  rw [row]

theorem owner_of_rowTx {s t : State} (row : t.rowTx = s.rowTx) : t.owner = s.owner := by
  unfold State.owner
  rw [row]

/-- Nothing of the part is on the row. -/
theorem owner_eq_none {s : State} : s.owner = none ↔ ∀ f, s.rowTx ≠ .onRow f := by
  unfold State.owner
  split <;> simp_all

/-- No block but the scan controller has a record of a frame on the row, and none is there. -/
def State.RowFree (s : State) : Prop :=
  s.owner = none ∧ (∀ e ∈ s.forward, e.onRow = false) ∧ s.emission = none ∧
  s.verify.record = none ∧ s.verify.alignRecord = none

/-- What the scan controller's record is while none of its queries is on the row. -/
def Scan.OffRow (c : Scan) : Prop := c.onRow = false ∧ c.state ≠ .stopping

theorem forward_off_row {s : State} (head : s.headOnRow = false) (tail : ∀ e ∈ s.forward.tail, e.onRow = false) :
    ∀ e ∈ s.forward, e.onRow = false := by
  unfold State.headOnRow at head
  cases forward : s.forward with
  | nil => nofun
  | cons e q =>
    rw [forward] at head tail
    intro d member
    obtain rfl | behind := List.mem_cons.mp member
    · exact head
    · exact tail d behind

theorem headOnRow_of_off_row {s : State} (off : ∀ e ∈ s.forward, e.onRow = false) : s.headOnRow = false := by
  unfold State.headOnRow
  split
  · next e q forward => exact off e (by rw [forward]; exact List.mem_cons_self)
  · rfl

namespace State.OwnersOk

variable {s t : State}

/-- With no frame on the row, no block has a record of one. -/
theorem of_free (row : s.RowFree) (scan : s.scan.OffRow) : s.OwnersOk := by
  obtain ⟨free, off, emission, record, align⟩ := row
  obtain ⟨offRow, running⟩ := scan
  refine ⟨?_, ?_, fun e member => off e (List.mem_of_mem_tail member), ?_, ?_, ?_, ?_, ?_, ?_⟩
  · simp [headOnRow_of_off_row off, free]
  · intro f e q onRow
    exact absurd onRow (owner_eq_none.mp free f)
  · simp [free, offRow]
  · simp [offRow]
  · exact fun stopping => absurd stopping running
  · simp [emission, free]
  · simp [record, free]
  · simp [align, free]

/-- A scan query is on the row exactly when the scan controller's record says so. -/
theorem scan_off (h : s.OwnersOk) (other : ∀ c, s.owner ≠ some (.scan c)) : s.scan.OffRow := by
  obtain ⟨-, -, -, scan, running, stopping, -⟩ := h
  have off : s.scan.onRow = false := by
    refine Bool.eq_false_iff.mpr fun onRow => ?_
    obtain ⟨last, -⟩ := running onRow
    obtain ⟨c, queried⟩ := Option.isSome_iff_exists.mp last
    exact other c ((scan c).mpr ⟨onRow, queried⟩)
  exact ⟨off, fun stop => by simp [stopping stop] at off⟩

/-- The blocks' records while a frame of some owner, or none, is on the row. -/
theorem records (h : s.OwnersOk) :
    (s.owner ≠ some .forward → ∀ e ∈ s.forward, e.onRow = false) ∧
    (s.owner ≠ some .level → s.emission = none) ∧
    (s.owner ≠ some .verify → s.verify.record = none) ∧
    (s.owner ≠ some .alignment → s.verify.alignRecord = none) := by
  obtain ⟨head, -, tail, -, -, -, emission, record, align⟩ := h
  have none_of : ∀ {α : Type} {x : Option α} {o : RowOwner}, (x.isSome = true ↔ s.owner = some o) →
      s.owner ≠ some o → x = none := by
    intro α x o both other
    cases x with
    | none => rfl
    | some y => exact absurd (both.mp rfl) other
  refine ⟨fun other => forward_off_row ?_ tail, none_of emission, none_of record, none_of align⟩
  exact Bool.eq_false_iff.mpr fun onRow => other (head.mp onRow)

/-- With no frame on the row, nothing is recorded. -/
theorem row_free (h : s.OwnersOk) (free : s.owner = none) : s.RowFree ∧ s.scan.OffRow := by
  obtain ⟨forward, emission, record, align⟩ := h.records
  rw [free] at forward emission record align
  exact ⟨⟨free, forward nofun, emission nofun, record nofun, align nofun⟩,
    h.scan_off (by rw [free]; exact fun _ => nofun)⟩

/-- The invariant reads these fields. -/
theorem same (h : s.OwnersOk) (read : t.rowTx = s.rowTx ∧ t.forward = s.forward ∧
    t.scan.onRow = s.scan.onRow ∧ t.scan.lastQueried = s.scan.lastQueried ∧
    t.scan.state = s.scan.state ∧ t.emission = s.emission ∧
    t.verify.record.isSome = s.verify.record.isSome ∧
    t.verify.alignRecord.isSome = s.verify.alignRecord.isSome) : t.OwnersOk := by
  obtain ⟨row, forward, onRow, queried, state, emission, record, align⟩ := read
  unfold State.OwnersOk State.headOnRow at h ⊢
  rwa [owner_of_rowTx row, row, forward, onRow, queried, state, emission, record, align]

theorem ofQuiet (h : s.OwnersOk) (f : Quiet s t) : t.OwnersOk := by
  unfold Quiet at f
  exact h.same (by rw [f]; and_intros <;> rfl)

theorem ofRowMap (h : s.OwnersOk) (f : RowMapFrame s t) : t.OwnersOk := by
  unfold RowMapFrame at f
  exact h.same (by rw [f]; and_intros <;> rfl)

theorem ofUpstream (h : s.OwnersOk) (f : UpstreamFrame s t) : t.OwnersOk := by
  unfold UpstreamFrame at f
  exact h.same (by rw [f]; and_intros <;> rfl)

end State.OwnersOk

namespace State.RowFree

variable {s t : State}

theorem same (h : s.RowFree) (read : t.rowTx = s.rowTx ∧ t.forward = s.forward ∧ t.emission = s.emission ∧
    t.verify.record = s.verify.record ∧ t.verify.alignRecord = s.verify.alignRecord) : t.RowFree := by
  obtain ⟨row, forward, emission, record, align⟩ := read
  unfold State.RowFree at h ⊢
  rwa [owner_of_rowTx row, forward, emission, record, align]

theorem ofUpstream (h : s.RowFree) (f : UpstreamFrame s t) : t.RowFree := by
  unfold UpstreamFrame at f
  exact h.same (by rw [f]; and_intros <;> rfl)

theorem ofRowMap (h : s.RowFree) (f : RowMapFrame s t) : t.RowFree := by
  unfold RowMapFrame at f
  exact h.same (by rw [f]; and_intros <;> rfl)

end State.RowFree

/-- The records agree, and no scan query is on the row. -/
def State.OwnersFree (s : State) : Prop := s.OwnersOk ∧ s.scan.onRow = false

/-- A scan starts or ends where none of its queries is on the row. -/
theorem State.OwnersFree.moved {s : State} (h : s.OwnersFree) {c : Scan} (turn : Bool) (off : c.OffRow) :
    ({ s with scan := c, lowerTurn := turn } : State).OwnersFree := by
  obtain ⟨⟨head, frame, tail, scan, -, -, rest⟩, offRow⟩ := h
  obtain ⟨off, running⟩ := off
  refine ⟨⟨head, frame, tail, fun d => ?_, ?_, fun stop => absurd stop running, rest⟩, off⟩
  · have free : s.owner ≠ some (.scan d) := fun own => by simp [((scan d).mp own).1] at offRow
    exact ⟨fun own => absurd own free, fun on => by simp [off] at on⟩
  · intro on
    simp [off] at on

/-- Scans, passes and events keep the row's records. -/
theorem ownersScanRule : ScanRule State.OwnersOk State.OwnersFree where
  weaken h := h.1
  free h off _ := ⟨h, off⟩
  idle h idle := by
    refine ⟨h, Bool.eq_false_iff.mpr fun onRow => ?_⟩
    obtain ⟨-, -, -, -, running, -⟩ := h
    obtain ⟨-, scanning | stopping⟩ := running onRow
    · exact absurd (idle.symm.trans scanning) nofun
    · exact absurd (idle.symm.trans stopping) nofun
  marks s _ _ _ _ _ h := h.same ⟨rfl, rfl, rfl, rfl, rfl, rfl, rfl, rfl⟩
  marksFree s _ _ _ _ _ h := ⟨h.1.same ⟨rfl, rfl, rfl, rfl, rfl, rfl, rfl, rfl⟩, h.2⟩
  opened s c turn off state h :=
    h.moved turn ⟨off, by obtain e | e := state <;> rw [e] <;> exact nofun⟩
  zones s h := ⟨h.1.same (by simp), h.2⟩
  recompute s a h := by
    refine ⟨h.1.ofRowMap (recompute_frame s a), ?_⟩
    obtain ⟨-, -, -, -, -, scan⟩ := (recompute_frame s a).keeps
    rw [scan]
    exact h.2
  notice e s h := h.ofUpstream (noticeOf_frame e s)
  noticeFree e s h := by
    refine ⟨h.1.ofUpstream (noticeOf_frame e s), ?_⟩
    have frame := noticeOf_frame e s
    unfold UpstreamFrame at frame
    rw [frame]
    exact h.2

@[simp] theorem flushForward_forward (s : State) : (flushForward s).forward = [] := by
  have flushed : ∀ (es : List FwdEntry) (t : State), (es.foldl flushEntry t).forward = t.forward := by
    intro es
    induction es with
    | nil => exact fun _ => rfl
    | cons e es ih =>
      intro t
      refine (ih _).trans ?_
      unfold flushEntry
      split
      · have frame := endTagged_frame e .noPower false [] t
        unfold UpstreamFrame at frame
        rw [frame]
      · rfl
  exact flushed _ _

namespace State.OwnersOk

variable {s t : State}

/-! ### Power and restarts -/

theorem powerOn (straps : Fin 16) (above : Bool) (s : State) : (powerOn straps above s).OwnersOk := by
  have blocks : (bootState straps above s).OwnersOk := of_free ⟨rfl, nofun, rfl, rfl, rfl⟩ ⟨rfl, nofun⟩
  unfold Machine.powerOn
  rw [powerOnBlocks_eq]
  exact ownersScanRule.raise _ blocks

theorem warmRestart (s : State) : (warmRestart s).OwnersOk := by
  have free : (warmState s).RowFree := by
    refine ⟨owner_eq_none.mpr fun f row => ?_, nofun, rfl, rfl, rfl⟩
    unfold warmState at row
    dsimp only at row
    split at row <;> cases row
  have blocks : (warmBlocks s).OwnersOk :=
    (of_free free ⟨rfl, nofun⟩).ofRowMap (ModesOk.recomputeAll_frame (warmState s))
  have free' : (warmBlocks s).RowFree := free.ofRowMap (ModesOk.recomputeAll_frame (warmState s))
  unfold Machine.warmRestart
  dsimp only
  refine ownersScanRule.raise _ ?_
  split
  · have returned := free'.ofRowMap (rowMapReturned_frame _)
    exact ownersScanRule.resumeScan
      (of_free (returned.same (t := endScan .idle _) ⟨rfl, rfl, rfl, rfl, rfl⟩) ⟨rfl, nofun⟩)
  · exact blocks

theorem rowPowerLost (s : State) : (rowPowerLost s).OwnersOk := by
  unfold Machine.rowPowerLost
  dsimp only
  generalize { s with power := { s.power with present := false } } = v
  have lost := rowMapLost_frame (rowPortLost v)
  have flushed := flushForward_frame (suspendScan (rowMapLost (rowPortLost v)))
  unfold RowMapFrame at lost
  unfold RelayFrame at flushed
  refine ownersScanRule.raise _ (of_free ⟨?_, ?_, ?_, rfl, rfl⟩ ?_)
  · refine owner_eq_none.mpr fun f row => ?_
    rw [show (verifyLost _).rowTx = (flushForward (suspendScan (rowMapLost (rowPortLost v)))).rowTx from rfl,
      flushed, lost] at row
    cases row
  · rw [show (verifyLost _).forward = (flushForward (suspendScan (rowMapLost (rowPortLost v)))).forward from rfl,
      flushForward_forward]
    nofun
  · rw [show (verifyLost _).emission = (flushForward (suspendScan (rowMapLost (rowPortLost v)))).emission from rfl,
      flushed, lost]
    rfl
  · rw [show (verifyLost _).scan = (flushForward (suspendScan (rowMapLost (rowPortLost v)))).scan from rfl,
      flushed]
    exact ⟨rfl, nofun⟩

theorem rowPowerReturned (h : s.OwnersOk) (modes : s.ModesOk) (absent : s.power.present = false) :
    (rowPowerReturned s).OwnersOk := by
  have powerless : s.rowTx = .powerless := modes.2.2.mpr absent
  have free : s.owner = none := owner_eq_none.mpr (by rw [powerless]; nofun)
  obtain ⟨⟨-, off, emission, record, align⟩, -⟩ := h.row_free free
  have gap : (enterGap { s with power := { s.power with present := true } }).RowFree :=
    ⟨rfl, off, emission, record, align⟩
  have returned := gap.ofRowMap (rowMapReturned_frame _)
  exact ownersScanRule.raise _ (ownersScanRule.resumeScan
    (of_free (returned.same (t := endScan .idle _) ⟨rfl, rfl, rfl, rfl, rfl⟩) ⟨rfl, nofun⟩))

/-! ### The forward queue -/

/-- A change of the forward queue that leaves its head on or off the row, and no entry behind it there. -/
theorem queue (h : s.OwnersOk) {q : List FwdEntry}
    (head : ({ s with forward := q } : State).headOnRow = s.headOnRow)
    (frame : s.headOnRow = true → q.head? = s.forward.head?)
    (tail : ∀ e ∈ q.tail, e.onRow = false) : ({ s with forward := q } : State).OwnersOk := by
  obtain ⟨headOk, frameOk, -, rest⟩ := h
  refine ⟨?_, fun f e r row own same => ?_, tail, rest⟩
  · rw [head]
    exact headOk
  · have first := frame (headOk.mpr ((owner_of_onRow row).trans (congrArg some own)))
    change q = e :: r at same
    rw [same, List.head?_cons] at first
    obtain ⟨r', was⟩ := List.head?_eq_some_iff.mp first.symm
    exact frameOk f e r' row own was

/-- An entry that joins the forward queue waits behind the others. -/
theorem append (h : s.OwnersOk) {e : FwdEntry} (waits : e.onRow = false) :
    ({ s with forward := s.forward ++ [e] } : State).OwnersOk := by
  obtain ⟨-, -, tail, -⟩ := id h
  cases forward : s.forward with
  | nil =>
    refine h.queue ?_ (fun on => ?_) nofun
    · simp [State.headOnRow, forward, waits]
    · simp [State.headOnRow, forward] at on
  | cons d q =>
    rw [forward] at tail
    refine h.queue ?_ (fun _ => by rw [forward]; rfl) fun b member => ?_
    · simp [State.headOnRow, forward]
    · obtain behind | rfl := List.mem_append.mp member |>.imp_right List.mem_singleton.mp
      · exact tail b behind
      · exact waits

theorem forwardUntagged (h : s.OwnersOk) (f : Frame) : (forwardUntagged f s).OwnersOk := by
  unfold Machine.forwardUntagged
  split
  · exact h.same ⟨rfl, rfl, rfl, rfl, rfl, rfl, rfl, rfl⟩
  · exact h.append rfl

theorem defer (h : s.OwnersOk) (f : Frame) : (defer f s).OwnersOk := by
  unfold Machine.defer
  dsimp only
  split
  · exact h.same ⟨rfl, rfl, rfl, rfl, rfl, rfl, rfl, rfl⟩
  · split
    · next t _ =>
      have appended := h.append (e := ⟨f, some t, false, f.unit,
        some (s.clock + BitVec.ofNat 32 Config.deferralMs)⟩) rfl
      exact appended.same ⟨rfl, rfl, rfl, rfl, rfl, rfl, rfl, rfl⟩
    · exact h.same ⟨rfl, rfl, rfl, rfl, rfl, rfl, rfl, rfl⟩

/-- An entry that leaves while it waits is not the one on the row. -/
theorem eraseWaiting (h : s.OwnersOk) {p : FwdEntry → Bool} (waits : ∀ e, p e = true → e.onRow = false) :
    ({ s with forward := s.forward.eraseP p } : State).OwnersOk := by
  obtain ⟨-, -, tail, -⟩ := id h
  cases forward : s.forward with
  | nil =>
    refine h.queue ?_ (fun _ => by rw [forward]; rfl) nofun
    simp [State.headOnRow, forward]
  | cons d q =>
    rw [forward] at tail
    by_cases erased : p d = true
    · rw [List.eraseP_cons_of_pos erased]
      have off : ({ s with forward := q } : State).headOnRow = false := headOnRow_of_off_row tail
      have was : s.headOnRow = false := by
        simp [State.headOnRow, forward, waits d erased]
      exact h.queue (off.trans was.symm) (fun on => by simp [was] at on)
        fun e member => tail e (List.mem_of_mem_tail member)
    · rw [List.eraseP_cons_of_neg erased]
      refine h.queue ?_ (fun _ => by rw [forward]; rfl) fun e member => tail e (List.mem_of_mem_eraseP member)
      simp [State.headOnRow, forward]

theorem expire (h : s.OwnersOk) (t : Tag) : (expire t s).OwnersOk := by
  have waits : ∀ e, FwdEntry.expired s.clock t e = true → e.onRow = false := by
    intro e expired
    simp only [FwdEntry.expired, Bool.and_eq_true, Bool.not_eq_true'] at expired
    exact expired.1.2
  unfold Machine.expire
  split
  · exact (h.eraseWaiting waits).ofUpstream (endTagged_frame _ _ _ _ _)
  · exact h

theorem popForward (h : s.OwnersOk) {f : RowFrame} (row : s.rowTx = .onRow f) (own : f.owner = .forward) :
    (enterGap (popForward s)).OwnersOk := by
  have owner : s.owner = some .forward := (owner_of_onRow row).trans (congrArg some own)
  obtain ⟨-, emission, record, align⟩ := h.records
  rw [owner] at emission record align
  exact of_free ⟨rfl, h.2.2.1, emission nofun, record nofun, align nofun⟩
    (h.scan_off (by rw [owner]; nofun))

/-! ### Writes -/

theorem rowWrite (h : s.OwnersOk) (a : Addr) (r : RowConfig) : (applyRowWrite a r s).OwnersOk := by
  have put : (s.setRow a r).OwnersOk := h.same ⟨rfl, rfl, rfl, rfl, rfl, rfl, rfl, rfl⟩
  unfold applyRowWrite
  dsimp only
  split
  · unfold revisedLuminaire
    dsimp only
    split
    · split
      · exact put
      · exact put.ofRowMap (setLum_frame _ _ _)
    · refine State.OwnersOk.ofRowMap ?_ (recompute_frame _ a)
      split
      · exact put
      · exact put.ofRowMap (setLum_frame _ _ _)
  · have left := put.ofRowMap (leaveLuminaire_frame a _)
    unfold disregardAlignment
    split
    · next request =>
      split
      · exact left.same ⟨rfl, rfl, rfl, rfl, rfl, rfl, rfl, by rw [request]; rfl⟩
      · exact left
    · exact left
  · unfold newLuminaire
    dsimp only
    split <;> exact put.same ⟨rfl, rfl, rfl, rfl, rfl, rfl, rfl, rfl⟩
  · exact put

theorem setZone_recomputeZone (h : s.OwnersOk) (z : ZoneId) (v : ZoneStatus) :
    (recomputeZone z (s.setZone z v)).OwnersOk :=
  (h.same (t := s.setZone z v) ⟨rfl, rfl, rfl, rfl, rfl, rfl, rfl, rfl⟩).ofRowMap (recomputeZone_frame z _)

theorem zoneWrite (h : s.OwnersOk) (z : ZoneId) (c : ZoneConfig) : (applyZoneWrite z c s).OwnersOk := by
  have put : (s.setZoneConfig z c).OwnersOk := h.same ⟨rfl, rfl, rfl, rfl, rfl, rfl, rfl, rfl⟩
  unfold applyZoneWrite
  dsimp only
  split
  · exact put.setZone_recomputeZone z _
  · exact put.setZone_recomputeZone z _
  · exact put
  · exact put

theorem changeMode (h : s.OwnersOk) (change : ZoneStatus → ZoneStatus) (z : ZoneId) :
    (changeMode change s z).OwnersOk := by
  unfold Machine.changeMode
  split
  · exact h
  · exact h.setZone_recomputeZone z _

theorem channelWrite (h : s.OwnersOk) (c : ChannelId) (v : ChannelConfig) :
    (applyChannelWrite c v s).OwnersOk := by
  have put : ((s.setChannelConfig c v).setChannel c .initial).OwnersOk :=
    h.same ⟨rfl, rfl, rfl, rfl, rfl, rfl, rfl, rfl⟩
  unfold applyChannelWrite
  dsimp only
  split
  · exact h.same ⟨rfl, rfl, rfl, rfl, rfl, rfl, rfl, rfl⟩
  · refine ownersScanRule.reviseScan ?_
    unfold disregardQuery
    split
    · exact put.same ⟨rfl, rfl, rfl, rfl, rfl, rfl, rfl, rfl⟩
    · exact put

theorem settingsWrite (h : s.OwnersOk) (k : Fin 1) (t : Settings) : (applySettingsWrite k t s).OwnersOk := by
  refine ownersScanRule.applySettingsWrite k t (fun _ onRow => ?_)
    (h.same ⟨rfl, rfl, rfl, rfl, rfl, rfl, rfl, rfl⟩)
  obtain ⟨head, frame, tail, scan, running, -, rest⟩ := h
  exact ⟨head, frame, tail, scan, fun on => ⟨(running on).1, .inr rfl⟩, fun _ => onRow, rest⟩

/-! ### The arbiter -/

/-- A frame that starts where none is leaves the one record of its owner. -/
theorem started (h : s.OwnersOk) (free : s.owner = none) {f : RowFrame} (row : t.rowTx = .onRow f)
    (forward : f.owner ≠ .forward → t.forward = s.forward)
    (head : f.owner = .forward → ∃ e q, s.forward = e :: q ∧ e.frame = f.frame ∧
      t.forward = { e with onRow := true } :: q)
    (scan : (∀ c, f.owner ≠ .scan c) → t.scan = s.scan)
    (query : ∀ c, f.owner = .scan c → t.scan.onRow = true ∧ t.scan.lastQueried = some c ∧
      t.scan.state = .scanning)
    (emission : t.emission.isSome = true ↔ f.owner = .level)
    (record : t.verify.record.isSome = true ↔ f.owner = .verify)
    (align : t.verify.alignRecord.isSome = true ↔ f.owner = .alignment) : t.OwnersOk := by
  obtain ⟨⟨-, off, -⟩, offRow, running⟩ := h.row_free free
  have owner : t.owner = some f.owner := owner_of_onRow row
  have owns : ∀ o, t.owner = some o ↔ f.owner = o := fun o => by rw [owner, Option.some_inj]
  have queue : (t.headOnRow = true ↔ f.owner = .forward) ∧ (∀ e ∈ t.forward.tail, e.onRow = false) ∧
      ∀ e q, f.owner = .forward → t.forward = e :: q → e.frame = f.frame := by
    by_cases own : f.owner = .forward
    · obtain ⟨e, q, was, frame, now⟩ := head own
      refine ⟨?_, fun d member => ?_, fun d r _ same => ?_⟩
      · simp [State.headOnRow, now, own]
      · rw [now] at member
        exact off d (by rw [was]; exact List.mem_cons_of_mem _ member)
      · rw [now] at same
        cases same
        exact frame
    · have same := forward own
      refine ⟨?_, fun d member => off d (List.mem_of_mem_tail (same ▸ member)), fun _ _ k => absurd k own⟩
      have headOff : t.headOnRow = false := headOnRow_of_off_row (by rw [same]; exact off)
      simp [headOff, own]
  obtain ⟨onRow, tail, frame⟩ := queue
  refine ⟨onRow.trans (owns _).symm, ?_, tail, ?_, ?_, ?_, emission.trans (owns _).symm,
    record.trans (owns _).symm, align.trans (owns _).symm⟩
  · intro g e q rowg own same
    rw [row] at rowg
    cases rowg
    exact frame e q own same
  · intro c
    rw [owns]
    constructor
    · exact fun own => ⟨(query c own).1, (query c own).2.1⟩
    · rintro ⟨on, last⟩
      by_cases other : ∃ d, f.owner = .scan d
      · obtain ⟨d, own⟩ := other
        rw [(query d own).2.1] at last
        cases last
        exact own
      · rw [scan (by simpa using other), offRow] at on
        cases on
  · intro on
    by_cases other : ∃ d, f.owner = .scan d
    · obtain ⟨d, own⟩ := other
      obtain ⟨-, last, state⟩ := query d own
      exact ⟨by rw [last]; rfl, .inl state⟩
    · rw [scan (by simpa using other), offRow] at on
      cases on
  · intro stop
    by_cases other : ∃ d, f.owner = .scan d
    · obtain ⟨d, own⟩ := other
      exact (query d own).1
    · rw [scan (by simpa using other)] at stop
      exact absurd stop running

end State.OwnersOk

theorem owner_of_ready {s : State} (ready : s.rowTx = .ready) : s.owner = none :=
  owner_eq_none.mpr (by rw [ready]; nofun)


namespace State.OwnersOk

variable {s t : State}

theorem arbitrate (s : State) (h : s.OwnersOk) : (arbitrate s).OwnersOk := by
  refine arbitrate_induction
    (fun _ k => k.same ⟨rfl, rfl, rfl, rfl, rfl, rfl, rfl, rfl⟩) ?level ?forward ?scan ?alignment ?verify s h
  case level =>
    intro s unit head covered ready _ _ k
    obtain ⟨⟨-, -, -, record, align⟩, -⟩ := k.row_free (owner_of_ready ready)
    have started : ({ startRow (levelFrame s unit head) .level s with
        emission := some ⟨covered, (s.lum head).output⟩ } : State).OwnersOk := by
      refine k.started (owner_of_ready ready) rfl (fun _ => rfl) nofun (fun _ => rfl) nofun
        (by simp) ?_ ?_
      · simp [record]
      · simp [align]
    exact started.ofRowMap (RowMapFrame.foldl (startCovered_frame _) covered _)
  case forward =>
    intro s t e q ready forward frame k
    obtain ⟨⟨-, -, emission, record, align⟩, -⟩ := k.row_free (owner_of_ready ready)
    have started : (startRow e.frame .forward
        { s with forward := { e with onRow := true } :: q }).OwnersOk := by
      refine k.started (owner_of_ready ready) rfl (fun other => absurd rfl other)
        (fun _ => ⟨e, q, forward, rfl, rfl⟩) (fun _ => rfl) nofun ?_ ?_ ?_
      · simp [emission]
      · simp [record]
      · simp [align]
    exact started.ofRowMap frame.rowMap
  case scan =>
    intro s c f ready scanning k
    obtain ⟨⟨-, -, emission, record, align⟩, -⟩ := k.row_free (owner_of_ready ready)
    refine k.started (owner_of_ready ready) rfl (fun _ => rfl) nofun
      (fun other => absurd rfl (other c)) (fun d own => ?_) ?_ ?_ ?_
    · cases own
      exact ⟨rfl, rfl, scanning⟩
    · simp [emission]
    · simp [record]
    · simp [align]
  case alignment =>
    intro s f v ready record align k
    obtain ⟨⟨-, -, emission, none, -⟩, -⟩ := k.row_free (owner_of_ready ready)
    refine k.started (owner_of_ready ready) rfl (fun _ => rfl) nofun (fun _ => rfl) nofun ?_ ?_ ?_
    · simp [emission]
    · simp [record, none]
    · simp [align]
  case verify =>
    intro s f v ready align record k
    obtain ⟨⟨-, -, emission, -, none⟩, -⟩ := k.row_free (owner_of_ready ready)
    refine k.started (owner_of_ready ready) rfl (fun _ => rfl) nofun (fun _ => rfl) nofun ?_ ?_ ?_
    · simp [emission]
    · simp [record]
    · simp [align, none]

/-! ### The ends of frames on the row -/

/-- The transmitter moves between states without a frame. -/
theorem row_moved (h : s.OwnersOk) {r : RowTx} (free : ∀ f, s.rowTx ≠ .onRow f) (moved : ∀ f, r ≠ .onRow f) :
    ({ s with rowTx := r } : State).OwnersOk := by
  obtain ⟨⟨-, off, emission, record, align⟩, scan⟩ := h.row_free (owner_eq_none.mpr free)
  exact of_free ⟨owner_eq_none.mpr moved, off, emission, record, align⟩ scan

/-- The records when the frame on the row is of a block that is not the scan controller. -/
theorem scan_off_of_owner (h : s.OwnersOk) {f : RowFrame} (row : s.rowTx = .onRow f)
    (own : ∀ c, f.owner ≠ .scan c) : s.scan.OffRow :=
  h.scan_off fun c => by
    rw [owner_of_onRow row]
    exact fun same => own c (Option.some.inj same)

theorem finishLevel (h : s.OwnersOk) {f : RowFrame} (row : s.rowTx = .onRow f) (own : f.owner = .level) :
    (finishLevel s).OwnersOk := by
  have owner : s.owner = some .level := (owner_of_onRow row).trans (congrArg some own)
  obtain ⟨-, -, -, -, -, -, emission, -⟩ := id h
  obtain ⟨m, emitted⟩ := Option.isSome_iff_exists.mp (emission.mpr owner)
  have scan := h.scan_off_of_owner row (by rw [own]; nofun)
  obtain ⟨forward, -, record, align⟩ := h.records
  rw [owner] at forward record align
  have frame := RowMapFrame.foldl (completeCovered_frame m.level) m.covered s
  unfold RowMapFrame at frame
  unfold Machine.finishLevel
  rw [emitted]
  dsimp only
  rw [frame]
  exact of_free ⟨rfl, forward nofun, rfl, record nofun, align nofun⟩ scan

theorem closeScan (h : s.OwnersOk) {f : RowFrame} {c : ChannelId} (row : s.rowTx = .onRow f)
    (own : f.owner = .scan c) (o : ChannelOutcome) : (scanOutcome c o (enterGap s)).OwnersOk := by
  have owner : s.owner = some (.scan c) := (owner_of_onRow row).trans (congrArg some own)
  obtain ⟨forward, emission, record, align⟩ := h.records
  rw [owner] at forward emission record align
  have gap : (enterGap s).RowFree := ⟨rfl, forward nofun, emission nofun, record nofun, align nofun⟩
  obtain ⟨-, -, -, scan, running, -⟩ := h
  have states : (enterGap s).scan.state = .scanning ∨ (enterGap s).scan.state = .stopping :=
    (running ((scan c).mp owner).1).2
  generalize enterGap s = v at gap states
  unfold scanOutcome
  dsimp only
  have recorded : (if v.scan.disregard = true then v else recordOutcome c o v).RowFree ∧
      (if v.scan.disregard = true then v else recordOutcome c o v).scan.state = v.scan.state := by
    split
    · exact ⟨gap, rfl⟩
    · exact foldl_raiseInScan_keeps (Inv := fun t => t.RowFree ∧ t.scan.state = v.scan.state)
        (fun _ _ _ k => ⟨k.1.same ⟨rfl, rfl, rfl, rfl, rfl⟩, k.2⟩)
        (fun e u k => ⟨k.1.ofUpstream (noticeOf_frame e u), by
          have frame := noticeOf_frame e u
          unfold UpstreamFrame at frame
          rw [frame]
          exact k.2⟩) _ ⟨gap.same ⟨rfl, rfl, rfl, rfl, rfl⟩, rfl⟩
  generalize (if v.scan.disregard = true then v else recordOutcome c o v) = u at recorded
  obtain ⟨free, same⟩ := recorded
  split
  · next scanning =>
    exact (ownersScanRule.advanceScan ⟨of_free (free.same ⟨rfl, rfl, rfl, rfl, rfl⟩)
      ⟨rfl, by dsimp only; rw [scanning]; nofun⟩, rfl⟩).1
  · exact (ownersScanRule.leaveStopping ⟨of_free (free.same ⟨rfl, rfl, rfl, rfl, rfl⟩)
      ⟨rfl, nofun⟩, rfl⟩).1
  · next idle => rw [← same, idle] at states; simp at states
  · next suspended => rw [← same, suspended] at states; simp at states

theorem closeVerify (h : s.OwnersOk) {f : RowFrame} (row : s.rowTx = .onRow f) (own : f.owner = .verify)
    (o : WindowOutcome) : (verifyOutcome o (enterGap s)).OwnersOk := by
  have owner : s.owner = some .verify := (owner_of_onRow row).trans (congrArg some own)
  have scan := h.scan_off_of_owner row (by rw [own]; nofun)
  obtain ⟨forward, emission, -, align⟩ := h.records
  rw [owner] at forward emission align
  refine ownersScanRule.verifyOutcome (fun s a l _ k => k.ofRowMap (setLum_frame s a l))
    (fun s a _ _ k => k.ofRowMap (reportMismatch_frame a s)) o
    (of_free ⟨rfl, forward nofun, emission nofun, rfl, align nofun⟩ scan)
    fun record => of_free ⟨rfl, forward nofun, emission nofun, record, align nofun⟩ scan

theorem alignOutcome_records (o : WindowOutcome) (s : State) :
    (alignOutcome o s).verify.record = s.verify.record ∧ (alignOutcome o s).verify.alignRecord = none := by
  unfold alignOutcome
  split
  · next none => exact ⟨rfl, none⟩
  · dsimp only
    split
    · split <;> exact ⟨rfl, rfl⟩
    · exact ⟨rfl, rfl⟩

theorem closeAlignment (h : s.OwnersOk) {f : RowFrame} (row : s.rowTx = .onRow f)
    (own : f.owner = .alignment) (o : WindowOutcome) : (alignOutcome o (enterGap s)).OwnersOk := by
  have owner : s.owner = some .alignment := (owner_of_onRow row).trans (congrArg some own)
  have scan := h.scan_off_of_owner row (by rw [own]; nofun)
  obtain ⟨forward, emission, record, -⟩ := h.records
  rw [owner] at forward emission record
  obtain ⟨frame, kept, emptied⟩ :=
    And.intro (alignOutcome_frame o (enterGap s)) (alignOutcome_records o (enterGap s))
  unfold ConfigFrame at frame
  generalize alignOutcome o (enterGap s) = t at frame kept emptied
  refine of_free ⟨?_, ?_, ?_, kept.trans (record nofun), emptied⟩ ?_
  · rw [frame]
    rfl
  · rw [frame]
    exact forward nofun
  · rw [frame]
    exact emission nofun
  · rw [frame]
    exact scan

end State.OwnersOk

/-- Every command keeps the row's records, where the modes agree too. -/
theorem ownersRule : StepRule (fun s => s.ModesOk ∧ s.OwnersOk) State.OwnersOk where
  start _ h := h.2
  quietBefore h q := ⟨h.1.ofQuiet q, h.2.ofQuiet q⟩
  quiet h := h.ofQuiet
  countBefore _ _ _ h := ⟨h.1.frame rfl rfl ⟨rfl, rfl, rfl⟩, h.2.same ⟨rfl, rfl, rfl, rfl, rfl, rfl, rfl, rfl⟩⟩
  count _ _ _ h := h.same ⟨rfl, rfl, rfl, rfl, rfl, rfl, rfl, rfl⟩
  powerOn straps above s _ := .powerOn straps above s
  warmRestart s _ := .warmRestart s
  rowPowerLost s _ := .rowPowerLost s
  rowPowerReturned _ absent h := h.2.rowPowerReturned h.1 absent
  startHead s h := by
    unfold startHead
    split
    · exact h.2
    · exact h.2.same ⟨rfl, rfl, rfl, rfl, rfl, rfl, rfl, rfl⟩
  loseHead _ h := h.2.same ⟨rfl, rfl, rfl, rfl, rfl, rfl, rfl, rfl⟩
  finishSending _ _ h := h.2.same ⟨rfl, rfl, rfl, rfl, rfl, rfl, rfl, rfl⟩
  absorb level fade s a _ h := h.ofRowMap (absorb_frame level fade s a)
  forwardUntagged f _ h := h.forwardUntagged f
  defer f _ _ h := h.2.defer f
  rowWrite a r _ _ h := h.2.rowWrite a r
  zoneWrite z c _ _ h := h.2.zoneWrite z c
  channelWrite c v _ _ h := h.2.channelWrite c v
  groupWrite _ _ _ h := h.2.same ⟨rfl, rfl, rfl, rfl, rfl, rfl, rfl, rfl⟩
  routeWrite _ _ _ _ h := h.2.same ⟨rfl, rfl, rfl, rfl, rfl, rfl, rfl, rfl⟩
  settingsWrite k t _ _ h := h.2.settingsWrite k t
  loadRow _ _ _ _ h := h.2.same ⟨rfl, rfl, rfl, rfl, rfl, rfl, rfl, rfl⟩
  changeMode change _ z _ _ h := h.changeMode change z
  trigger urgent _ h := ownersScanRule.trigger urgent h.2
  takeTick _ h := ownersScanRule.takeTick h.2
  raise e _ h := ownersScanRule.raise e h.2
  arbitrate s h := .arbitrate s h
  ready _ gap h := h.2.row_moved (by rw [gap]; nofun) nofun
  leaveReady _ ready h := h.2.row_moved (by rw [ready]; nofun) nofun
  finishLevel _ _ row own h := h.2.finishLevel row own
  popForward _ _ row own _ h := h.2.popForward row own
  closeDeferred _ _ e _ o row own _ h := (h.2.popForward row own).ofUpstream (deferredOutcome_frame e o _)
  closeScan _ _ _ _ row own h := h.2.closeScan row own _
  closeVerify _ _ o row own h := h.2.closeVerify row own o
  closeAlignment _ _ o row own h := h.2.closeAlignment row own o
  expire t _ h := h.2.expire t
  saturate s h := h.2.same (by simp [saturateStamps])

/-- Settles O12: every command keeps the row's records, by its parts. -/
theorem stepKeepsRowOwners : Obligations.StepKeepsRowOwners :=
  fun _ _ => ownersRule.step fun _ _ h =>
    ⟨h.1.frame rfl rfl ⟨rfl, rfl, rfl⟩, h.2.same ⟨rfl, rfl, rfl, rfl, rfl, rfl, rfl, rfl⟩⟩

end Sys2Proof.Machine

namespace Sys2Proof.Machine

/-! ## Every step keeps the order of the upstream queue (O11) -/

/-- A notice's kind and subject, by which it merges (R172); a DEFERRED REPLY has none. -/
def UpEntry.key (e : UpEntry) : Option (Fin 11 × Nat) :=
  match e.item with
  | .notice n => some (n.event.kind, n.event.subject)
  | .deferred _ => none

/-- The order of the upstream queue in terms of the entries' ranks and keys. -/
def QueueOrdered (q : List UpEntry) : Prop :=
  (∀ e ∈ q, e.key ≠ none → 1 ≤ e.rank ∧ e.rank ≤ 7) ∧
  q.Pairwise (fun e f => f.rank ≤ e.rank) ∧
  q.Pairwise (fun e f => e.key ≠ none → e.key ≠ f.key)

theorem sameSubject_iff (a b : Event) : a.sameSubject b = true ↔ (a.kind, a.subject) = (b.kind, b.subject) := by
  simp [Event.sameSubject]

theorem upstreamOk_iff {s : State} : s.UpstreamOk ↔ QueueOrdered s.upstream := by
  have priority : ∀ e : UpEntry, (∀ n, e.item = .notice n → 1 ≤ n.priority ∧ n.priority ≤ 7) ↔
      (e.key ≠ none → 1 ≤ e.rank ∧ e.rank ≤ 7) := by
    intro e
    unfold UpEntry.key UpEntry.rank
    cases e.item <;> simp
  have distinct : ∀ e f : UpEntry, (match e.item, f.item with
      | .notice m, .notice n => m.event.sameSubject n.event = false
      | .notice _, .deferred _ => True
      | .deferred _, .notice _ => True
      | .deferred _, .deferred _ => True) ↔ (e.key ≠ none → e.key ≠ f.key) := by
    intro e f
    unfold UpEntry.key
    cases e.item <;> cases f.item <;> simp [Event.sameSubject]
  unfold State.UpstreamOk QueueOrdered
  simp only [priority]
  refine and_congr_right fun _ => and_congr_right fun _ => ?_
  constructor <;> refine fun h => h.imp fun {e f} k => ?_
  · exact (distinct e f).mp k
  · exact (distinct e f).mpr k

namespace QueueOrdered

variable {p q : List UpEntry} {d e : UpEntry}

theorem sublist (h : QueueOrdered q) (sub : p.Sublist q) : QueueOrdered p := by
  obtain ⟨priority, ranks, keys⟩ := h
  exact ⟨fun e member => priority e (sub.subset member), ranks.sublist sub, keys.sublist sub⟩

/-- A change of the entries that keeps ranks and keys keeps the order. -/
theorem map (h : QueueOrdered q) {f : UpEntry → UpEntry}
    (same : ∀ e, (f e).rank = e.rank ∧ (f e).key = e.key) : QueueOrdered (q.map f) := by
  obtain ⟨priority, ranks, keys⟩ := h
  refine ⟨fun e member => ?_, ?_, ?_⟩
  · obtain ⟨d, queued, rfl⟩ := List.mem_map.mp member
    rw [(same d).1, (same d).2]
    exact priority d queued
  · exact List.pairwise_map.mpr (ranks.imp fun {d e} k => by rwa [(same d).1, (same e).1])
  · exact List.pairwise_map.mpr (keys.imp fun {d e} k => by rwa [(same d).2, (same e).2])

/-- The head's marks do not matter. -/
theorem head (h : QueueOrdered (e :: q)) (rank : d.rank = e.rank) (key : d.key = e.key) : QueueOrdered (d :: q) := by
  obtain ⟨priority, ranks, keys⟩ := h
  obtain ⟨first, priorities⟩ := List.forall_mem_cons.mp priority
  refine ⟨List.forall_mem_cons.mpr ⟨?_, priorities⟩, ?_, ?_⟩
  · rwa [rank, key]
  · rw [List.pairwise_cons] at ranks ⊢
    rwa [rank]
  · rw [List.pairwise_cons] at keys ⊢
    rwa [key]

/-- An entry of a new key, placed behind those of its rank or a higher one, keeps the order (R15, R16). -/
theorem place (h : QueueOrdered q) (priority : e.key ≠ none → 1 ≤ e.rank ∧ e.rank ≤ 7)
    (fresh : ∀ f ∈ q, e.key ≠ none → f.key ≠ e.key) : QueueOrdered (place e q) := by
  obtain ⟨priorities, ranks, keys⟩ := h
  have members : ∀ d ∈ Machine.place e q, d = e ∨ d ∈ q := fun d member =>
    List.mem_cons.mp ((place_perm e q).subset member)
  refine ⟨fun d member => ?_, ?_, ?_⟩
  · obtain rfl | queued := members d member
    · exact priority
    · exact priorities d queued
  · unfold Machine.place
    have ahead : ∀ d ∈ q.takeWhile (fun x => decide (e.rank ≤ x.rank)), e.rank ≤ d.rank := fun d member =>
      of_decide_eq_true (List.all_eq_true.mp List.all_takeWhile d member)
    have behind : ∀ d ∈ q.dropWhile (fun x => decide (e.rank ≤ x.rank)), d.rank ≤ e.rank := by
      intro d member
      have sorted := ranks.sublist (List.dropWhile_sublist (fun x => decide (e.rank ≤ x.rank)))
      cases drop : q.dropWhile (fun x => decide (e.rank ≤ x.rank)) with
      | nil =>
        rw [drop] at member
        cases member
      | cons b r =>
        have first : ¬ e.rank ≤ b.rank := fun k => by
          have := List.head?_dropWhile_not (fun x => decide (e.rank ≤ x.rank)) q
          rw [drop] at this
          simp [k] at this
        rw [drop] at member sorted
        obtain rfl | later := List.mem_cons.mp member
        · omega
        · have := (List.pairwise_cons.mp sorted).1 d later
          omega
    refine List.pairwise_append.mpr ⟨ranks.sublist (List.takeWhile_sublist _),
      List.pairwise_cons.mpr ⟨behind, ranks.sublist (List.dropWhile_sublist _)⟩, fun d before f after => ?_⟩
    obtain rfl | later := List.mem_cons.mp after
    · exact ahead d before
    · exact Nat.le_trans (behind f later) (ahead d before)
  · refine ((place_perm e q).pairwise_iff fun {d f} k some same => ?_).mpr ?_
    · exact k (same ▸ some) same.symm
    · exact List.pairwise_cons.mpr ⟨fun f member some same => fresh f member some same.symm, keys⟩

end QueueOrdered

theorem unmark_view (e : UpEntry) : e.unmark.rank = e.rank ∧ e.unmark.key = e.key := ⟨rfl, rfl⟩

/-- A merge keeps the priority, the kind and the subject (R16). -/
theorem mergeInto_view (n : Notice) (e : UpEntry) :
    (mergeInto n e).rank = e.rank ∧ (mergeInto n e).key = e.key := by
  obtain ⟨item, sending, merged⟩ := e
  cases item with
  | deferred d => exact ⟨rfl, rfl⟩
  | notice m =>
    unfold mergeInto
    dsimp only
    split
    · next same => exact ⟨rfl, congrArg some ((sameSubject_iff _ _).mp same).symm⟩
    · exact ⟨rfl, rfl⟩

theorem matches_iff (n : Notice) (e : UpEntry) :
    e.matches n = true ↔ e.key = some (n.event.kind, n.event.subject) := by
  obtain ⟨item, sending, merged⟩ := e
  cases item with
  | deferred d => simp [UpEntry.matches, UpEntry.key]
  | notice m =>
    rw [UpEntry.matches, UpEntry.key, Option.some_inj]
    exact sameSubject_iff _ _

/-- An offered NOTICE merges, stands at its rank, or is dropped (R15, R16). -/
theorem offerNotice_ordered {n : Notice} (priority : 1 ≤ n.priority ∧ n.priority ≤ 7) {s : State}
    (h : QueueOrdered s.upstream) : QueueOrdered (offerNotice n s).upstream := by
  unfold offerNotice
  split
  · exact h.map (mergeInto_view n)
  · next other =>
    have fresh : ∀ q : List UpEntry, q.Sublist s.upstream → ∀ f ∈ q,
        UpEntry.key ⟨.notice n, false, false⟩ ≠ none → f.key ≠ UpEntry.key ⟨.notice n, false, false⟩ := by
      intro q sub f member _ same
      exact other (List.any_eq_true.mpr ⟨f, sub.subset member, (matches_iff n f).mpr same⟩)
    split
    · exact h.place (fun _ => priority) (fresh _ (List.Sublist.refl _))
    · split
      · next p _ =>
        have sub : (dropOldest p s.upstream).Sublist s.upstream := List.eraseP_sublist
        split
        · exact (h.sublist sub).place (fun _ => priority) (fresh _ sub)
        · exact h
      · exact h

/-- What makes place for a DEFERRED REPLY only takes notices away (R15). -/
theorem makePlace_sublist (s : State) : (makePlace s).upstream.Sublist s.upstream := by
  unfold makePlace
  split
  · exact List.eraseP_sublist
  · split
    · exact List.eraseP_sublist
    · exact List.Sublist.refl _

/-- An offered DEFERRED REPLY stands behind those queued before it (R15). -/
theorem offerDeferred_ordered (d : DeferredReply) {s : State} (h : QueueOrdered s.upstream) :
    QueueOrdered (offerDeferred d s).upstream := by
  have placed : ∀ t : State, QueueOrdered t.upstream → QueueOrdered (placeDeferred d t).upstream := by
    intro t k
    unfold placeDeferred
    split
    · exact k
    · exact k.place (fun some => absurd rfl some) fun _ _ some => absurd rfl some
  rw [offerDeferred_eq]
  split
  · exact placed _ (h.sublist (makePlace_sublist s))
  · exact placed s h

/-- The tables are in range and the upstream queue is in order. -/
def State.Ordered (s : State) : Prop := s.RangesOk ∧ QueueOrdered s.upstream

namespace State.Ordered

variable {s t : State}

/-- What leaves the upstream queue as it was keeps its order. -/
theorem kept (h : s.Ordered) (ranges : t.RangesOk) (upstream : t.upstream = s.upstream) : t.Ordered :=
  ⟨ranges, upstream ▸ h.2⟩

theorem ofQuiet (h : s.Ordered) (f : Quiet s t) : t.Ordered := by
  refine h.kept (h.1.ofQuiet f) ?_
  unfold Quiet at f
  rw [f]

theorem ofConfig (h : s.Ordered) (ranges : t.RangesOk) (f : ConfigFrame s t) : t.Ordered := by
  refine h.kept ranges ?_
  unfold ConfigFrame at f
  rw [f]

/-- Every route in range gives a priority up to 7 (R158). -/
theorem route_le (h : s.Ordered) (k : Fin 11) : s.tables.routes[k.val].priority ≤ 7 := by
  obtain ⟨-, -, -, -, routes, -⟩ := (Tables.inRange_iff _).mp h.1.1
  have := routes k
  simpa [Route.inRange] using this

theorem noticeOf (h : s.Ordered) (e : Event) : (noticeOf e s).Ordered := by
  refine ⟨h.1.ofUpstream (noticeOf_frame e s), ?_⟩
  unfold Machine.noticeOf
  dsimp only
  split
  · next raised => exact offerNotice_ordered (n := ⟨e, _, _⟩) ⟨raised, h.route_le e.kind⟩ h.2
  · exact h.2

theorem endTagged (h : s.Ordered) (e : FwdEntry) (o : DeferralOutcome) (noisy : Bool) (data : List Byte) :
    (endTagged e o noisy data s).Ordered := by
  refine ⟨h.1.ofUpstream (endTagged_frame e o noisy data s), ?_⟩
  unfold Machine.endTagged
  split
  · exact offerDeferred_ordered _ h.2
  · exact h.2

theorem deferredOutcome (h : s.Ordered) (e : FwdEntry) (o : WindowOutcome) : (deferredOutcome e o s).Ordered := by
  cases o <;> exact h.endTagged _ _ _ _

end State.Ordered

/-- Scans, passes and events keep the order of the upstream queue. -/
theorem orderedScanRule : ScanRule State.Ordered State.Ordered :=
  .ofBlind (fun _ _ _ h => h.kept (h.1.same ⟨rfl, rfl, rfl, rfl, rfl⟩) rfl)
    (fun s h => h.kept (State.RangesOk.scanRule.zones s h.1) (by simp))
    (fun s a h => h.ofConfig (h.1.recompute a) (recompute_frame s a).config)
    fun e _ h => h.noticeOf e

namespace State.Ordered

variable {s t : State}

theorem powerOn (straps : Fin 16) (above : Bool) (s : State) : (powerOn straps above s).Ordered := by
  have blocks : (bootState straps above s).Ordered :=
    ⟨.of_restart (loadTables_inRange s) rfl rfl rfl fun a => by
      rw [bootState_lum]
      exact ⟨Nat.le_refl _, Nat.le_refl _, Nat.zero_le _, Nat.zero_le _, Nat.zero_le _⟩, nofun, .nil, .nil⟩
  unfold Machine.powerOn
  rw [powerOnBlocks_eq]
  exact orderedScanRule.raise _ blocks

theorem endScan (st : ScanState) (h : s.Ordered) : (endScan st s).Ordered := h.kept (h.1.endScan st) rfl

theorem rowMapReturned (h : s.Ordered) : (rowMapReturned s).Ordered :=
  h.ofConfig h.1.rowMapReturned (rowMapReturned_frame s).config

theorem warmRestart (h : s.RangesOk) : (warmRestart s).Ordered := by
  have blocks : (warmBlocks s).Ordered := ⟨h.warmBlocks, nofun, .nil, .nil⟩
  unfold Machine.warmRestart
  dsimp only
  refine orderedScanRule.raise _ ?_
  split
  · exact orderedScanRule.resumeScan (blocks.rowMapReturned.endScan .idle)
  · exact blocks

theorem flushForward (h : s.Ordered) : (flushForward s).Ordered := by
  have flushed : ∀ (es : List FwdEntry) (t : State), t.Ordered → (es.foldl flushEntry t).Ordered := by
    intro es
    induction es with
    | nil => exact fun _ k => k
    | cons e es ih =>
      refine fun t k => ih _ ?_
      unfold flushEntry
      split
      · exact k.endTagged _ _ _ _
      · exact k.kept (k.1.same ⟨rfl, rfl, rfl, rfl, rfl⟩) rfl
  exact flushed _ _ (h.kept (t := { s with forward := [] }) (h.1.same ⟨rfl, rfl, rfl, rfl, rfl⟩) rfl)

theorem rowPortLost (h : s.Ordered) : (rowPortLost s).Ordered := h.kept h.1.rowPortLost rfl

theorem suspendScan (h : s.Ordered) : (suspendScan s).Ordered := h.kept h.1.suspendScan rfl

theorem powered (h : s.Ordered) (p : RowPower) : ({ s with power := p } : State).Ordered :=
  h.kept (h.1.powered p) rfl

theorem rowMapLost (h : s.Ordered) : (rowMapLost s).Ordered :=
  h.ofConfig h.1.rowMapLost (rowMapLost_frame s).config

theorem verifyLost (h : s.Ordered) : (verifyLost s).Ordered := h.kept h.1.verifyLost rfl

theorem enterGap (h : s.Ordered) : (enterGap s).Ordered := h.kept h.1.enterGap rfl

theorem rowPowerLost (h : s.Ordered) : (rowPowerLost s).Ordered :=
  orderedScanRule.raise _
    (h.powered { s.power with present := false }).rowPortLost.rowMapLost.suspendScan.flushForward.verifyLost

theorem rowPowerReturned (h : s.Ordered) : (rowPowerReturned s).Ordered :=
  orderedScanRule.raise _ (orderedScanRule.resumeScan
    ((h.powered { s.power with present := true }).enterGap.rowMapReturned.endScan .idle))

theorem startHead (h : s.Ordered) : (startHead s).Ordered := by
  refine ⟨rangesRule.startHead s h.1, ?_⟩
  unfold Machine.startHead
  split
  · exact h.2
  · next e q upstream =>
    have queue := h.2
    rw [upstream] at queue
    exact queue.head (d := { e with sending := true, merged := false }) rfl rfl

theorem relay (h : s.Ordered) (f : Frame) : (forwardUntagged f s).Ordered ∧ (defer f s).Ordered := by
  refine ⟨h.kept (rangesRule.forwardUntagged f s h.1) ?_, h.kept (h.1.ofRelay (defer_frame f s)) ?_⟩
  · unfold Machine.forwardUntagged
    split <;> rfl
  · unfold Machine.defer
    dsimp only
    split
    · rfl
    · split <;> rfl

theorem arbitrate (s : State) (h : s.Ordered) : (arbitrate s).Ordered := by
  refine h.kept (h.1.arbitrate) ?_
  have frame := arbitrate_frame s
  unfold TakeFrame at frame
  rw [frame]

theorem closeForward (h : s.Ordered) : (Machine.enterGap (popForward s)).Ordered :=
  h.kept (h.1.ofRelay (popForward_frame s)).enterGap rfl

theorem expire (h : s.Ordered) (t : Tag) : (expire t s).Ordered := by
  unfold Machine.expire
  split
  · have left : ({ s with forward := s.forward.eraseP (FwdEntry.expired s.clock t) } : State).Ordered :=
      h.kept (h.1.same ⟨rfl, rfl, rfl, rfl, rfl⟩) rfl
    exact left.endTagged _ _ _ _
  · exact h

theorem channelWrite (h : s.Ordered) (c : ChannelId) {v : ChannelConfig} (ok : v.inRange = true) :
    (applyChannelWrite c v s).Ordered := by
  have put : (s.setChannelConfig c v).Ordered := h.kept (h.1.putTables (Tables.inRange_setChannel h.1.1 c ok)) rfl
  unfold applyChannelWrite
  dsimp only
  split
  · exact put
  · have reset : ((s.setChannelConfig c v).setChannel c .initial).Ordered :=
      put.kept (put.1.setChannel c ⟨Nat.zero_le _, Nat.zero_le _, Nat.zero_le _⟩) rfl
    refine orderedScanRule.reviseScan (reset.kept (reset.1.disregardQuery c) ?_)
    unfold disregardQuery
    split <;> rfl

theorem settingsWrite (h : s.Ordered) (k : Fin 1) {t : Settings} (ok : t.inRange = true) :
    (applySettingsWrite k t s).Ordered := by
  have put : ({ s with tables := { s.tables with settings := t } } : State).Ordered :=
    h.kept (h.1.putTables (Tables.inRange_settings h.1.1 ok)) rfl
  exact orderedScanRule.applySettingsWrite k t
    (fun _ _ => put.kept (put.1.same ⟨rfl, rfl, rfl, rfl, rfl⟩) rfl) put

theorem finishLevel (h : s.Ordered) : (finishLevel s).Ordered := by
  refine h.kept h.1.finishLevel ?_
  unfold Machine.finishLevel
  split
  · rfl
  · next m _ =>
    have frame := RowMapFrame.foldl (completeCovered_frame m.level) m.covered s
    unfold RowMapFrame at frame
    rw [frame]
    rfl

theorem closeScan (h : s.Ordered) (c : ChannelId) (w : WindowOutcome) :
    (scanOutcome c (channelOutcome w) s).Ordered :=
  orderedScanRule.scanOutcome_of_blind (fun _ _ _ k => k.kept (k.1.same ⟨rfl, rfl, rfl, rfl, rfl⟩) rfl) c _
    (h.kept (h.1.setChannel c (channelAfter_ok s w h.1.recoverLimit_le (h.1.2.2.2.1 c))) rfl) h

theorem closeVerify (h : s.Ordered) (o : WindowOutcome) : (verifyOutcome o s).Ordered :=
  orderedScanRule.verifyOutcome (fun s a l same k => k.ofConfig (k.1.judged a same) (setLum_frame s a l).config)
    (fun s a _ _ k => k.ofConfig (k.1.reportMismatch a) (reportMismatch_frame a s).config) o
    (h.kept (h.1.same ⟨rfl, rfl, rfl, rfl, rfl⟩) rfl) fun _ => h

end State.Ordered

/-- Every command keeps the order of the upstream queue. -/
theorem orderedRule : StepRule State.Ordered State.Ordered where
  start _ h := h
  quietBefore h := h.ofQuiet
  quiet h := h.ofQuiet
  countBefore _ _ _ h := h.kept (h.1.same ⟨rfl, rfl, rfl, rfl, rfl⟩) rfl
  count _ _ _ h := h.kept (h.1.same ⟨rfl, rfl, rfl, rfl, rfl⟩) rfl
  powerOn straps above s _ := .powerOn straps above s
  warmRestart _ h := .warmRestart h.1
  rowPowerLost _ h := h.rowPowerLost
  rowPowerReturned _ _ h := h.rowPowerReturned
  startHead _ h := h.startHead
  loseHead _ h := ⟨h.1.same ⟨rfl, rfl, rfl, rfl, rfl⟩, h.2.map unmark_view⟩
  finishSending _ _ h := ⟨h.1.same ⟨rfl, rfl, rfl, rfl, rfl⟩, (h.2.sublist List.filter_sublist).map unmark_view⟩
  absorb level fade s a small h := h.ofConfig (h.1.absorb small fade a) (absorb_frame level fade s a).config
  forwardUntagged f _ h := (h.relay f).1
  defer f _ _ h := (h.relay f).2
  rowWrite a r s ok h := h.ofConfig (h.1.rowWrite a ok) (applyRowWrite_frame a r s)
  zoneWrite z c s ok h := h.ofConfig (h.1.zoneWrite z ok) (applyZoneWrite_frame z c s)
  channelWrite c _ _ ok h := h.channelWrite c ok
  groupWrite _ _ _ h := h.kept (h.1.putTables h.1.1) rfl
  routeWrite k _ _ ok h := h.kept (h.1.putTables (Tables.inRange_setRoute h.1.1 k ok)) rfl
  settingsWrite k _ _ ok h := h.settingsWrite k ok
  loadRow z _ _ ok h := h.kept (h.1.putTables (Tables.inRange_setCoeffs h.1.1 z (ok h.1.1))) rfl
  changeMode change s z c _ h := h.ofConfig (h.1.changeMode c z) (changeMode_configFrame change s z)
  trigger urgent _ h := orderedScanRule.trigger urgent h
  takeTick _ h := orderedScanRule.takeTick h
  raise e _ h := orderedScanRule.raise e h
  arbitrate := State.Ordered.arbitrate
  ready _ _ h := h.kept (h.1.same ⟨rfl, rfl, rfl, rfl, rfl⟩) rfl
  leaveReady _ _ h := h.kept (h.1.same ⟨rfl, rfl, rfl, rfl, rfl⟩) rfl
  finishLevel _ _ _ _ h := h.finishLevel
  popForward _ _ _ _ _ h := h.closeForward
  closeDeferred _ _ e _ o _ _ _ h := h.closeForward.deferredOutcome e o
  closeScan _ _ c w _ _ h := h.enterGap.closeScan c w
  closeVerify _ _ o _ _ h := h.enterGap.closeVerify o
  closeAlignment s _ o _ _ h := h.enterGap.ofConfig (h.1.enterGap.closeAlignment o) (alignOutcome_frame o (enterGap s))
  expire t _ h := h.expire t
  saturate _ h := h.kept h.1.saturate (by simp [saturateStamps])

/-- Settles O11: every command keeps the order of the upstream queue, by its parts. -/
theorem stepKeepsUpstreamOrder : Obligations.StepKeepsUpstreamOrder := by
  intro s t ⟨ranges, order⟩ next
  refine upstreamOk_iff.mpr (orderedRule.step (fun _ _ h => h.kept (h.1.same ⟨rfl, rfl, rfl, rfl, rfl⟩) rfl)
    ⟨ranges, upstreamOk_iff.mp order⟩ next).2

end Sys2Proof.Machine

namespace Sys2Proof.Machine

/-! ## Every step keeps a tag in use exactly while its entry or its DEFERRED REPLY is queued (O13) -/

/-- The tag of a DEFERRED REPLY. -/
def UpEntry.deferredTag (e : UpEntry) : Option Tag :=
  match e.item with
  | .deferred d => some d.tag
  | .notice _ => none

/-- The tags of the DEFERRED REPLY frames of a queue. -/
def deferredTags (q : List UpEntry) : List Tag := q.filterMap UpEntry.deferredTag

theorem upstreamTags_eq (s : State) : s.upstreamTags = deferredTags s.upstream := by
  unfold State.upstreamTags deferredTags
  refine congrArg (fun f => s.upstream.filterMap f) (funext fun e => ?_)
  unfold UpEntry.deferredTag
  cases e.item <;> rfl

theorem deferredTag_of_notice {e : UpEntry} (notice : e.isNotice = true) : e.deferredTag = none := by
  unfold UpEntry.isNotice at notice
  unfold UpEntry.deferredTag
  split at notice
  · next item => rw [item]
  · cases notice

theorem deferredTag_unmark (e : UpEntry) : e.unmark.deferredTag = e.deferredTag := rfl

theorem deferredTag_mergeInto (n : Notice) (e : UpEntry) : (mergeInto n e).deferredTag = e.deferredTag := by
  obtain ⟨item, sending, merged⟩ := e
  cases item with
  | deferred d => rfl
  | notice m =>
    unfold mergeInto
    dsimp only
    split <;> rfl

theorem deferredTags_map {f : UpEntry → UpEntry} (same : ∀ e, (f e).deferredTag = e.deferredTag)
    (q : List UpEntry) : deferredTags (q.map f) = deferredTags q := by
  unfold deferredTags
  rw [List.filterMap_map, show UpEntry.deferredTag ∘ f = UpEntry.deferredTag from funext same]

/-- Every queued frame is a notice or has a tag. -/
theorem length_eq_tags_notices (q : List UpEntry) : q.length = (deferredTags q).length + noticeCount q := by
  induction q with
  | nil => rfl
  | cons e q ih =>
    obtain ⟨item, sending, merged⟩ := e
    rw [noticeCount_cons, List.length_cons, ih]
    cases item with
    | notice n =>
      have tags : deferredTags (⟨.notice n, sending, merged⟩ :: q) = deferredTags q := List.filterMap_cons_none rfl
      rw [tags]
      rfl
    | deferred d =>
      have tags : deferredTags (⟨.deferred d, sending, merged⟩ :: q) = d.tag :: deferredTags q :=
        List.filterMap_cons_some rfl
      rw [tags, List.length_cons]
      exact Nat.add_right_comm _ _ _

/-- A notice that leaves takes no tag with it. -/
theorem deferredTags_of_notice {q r : List UpEntry} {e : UpEntry} (notice : e.isNotice = true)
    (perm : q.Perm (e :: r)) : (deferredTags q).Perm (deferredTags r) := by
  have tags : (deferredTags q).Perm (deferredTags (e :: r)) := perm.filterMap _
  rwa [show deferredTags (e :: r) = deferredTags r from
    List.filterMap_cons_none (deferredTag_of_notice notice)] at tags

/-- The place that a DEFERRED REPLY is made is a notice's, if one is queued (R15). -/
theorem makePlace_tags (s : State) :
    (deferredTags (makePlace s).upstream).Perm (deferredTags s.upstream) ∧
    (0 < noticeCount s.upstream → (makePlace s).upstream.length < s.upstream.length) := by
  unfold makePlace
  split
  · next p lowest =>
    obtain ⟨e, notice, -, -, perm⟩ := dropOldest_perm lowest
    refine ⟨(deferredTags_of_notice notice perm).symm, fun _ => ?_⟩
    show (dropOldest p s.upstream).length < s.upstream.length
    simp [perm.length_eq]
  · split
    · next some =>
      obtain ⟨e, notice, perm⟩ := eraseNotice_perm some
      refine ⟨(deferredTags_of_notice notice perm).symm, fun _ => ?_⟩
      show (s.upstream.eraseP UpEntry.isNotice).length < s.upstream.length
      simp [perm.length_eq]
    · next none => exact ⟨.refl _, fun some => absurd some none⟩

/-- An event moves no tag. -/
theorem noticeOf_tags (e : Event) (s : State) :
    (deferredTags (noticeOf e s).upstream).Perm (deferredTags s.upstream) := by
  have placed : ∀ (n : Notice) (q : List UpEntry),
      (deferredTags (place ⟨.notice n, false, false⟩ q)).Perm (deferredTags q) :=
    fun n q => deferredTags_of_notice rfl (place_perm _ q)
  unfold noticeOf
  dsimp only
  split
  · unfold offerNotice
    split
    · rw [deferredTags_map (deferredTag_mergeInto _)]
    · split
      · exact placed _ _
      · split
        · next p lowest =>
          split
          · obtain ⟨d, notice, -, -, perm⟩ := dropOldest_perm lowest
            exact (placed _ _).trans (deferredTags_of_notice notice perm).symm
          · exact .refl _
        · exact .refl _
  · exact .refl _

/-- With at most 8 tags in use, an offered DEFERRED REPLY whose tag is one of them finds a place (R15, R135; log entry 22). -/
theorem offerDeferred_tags (d : DeferredReply) {s : State} (fits : s.upstream.length ≤ 8)
    (few : (d.tag :: deferredTags s.upstream).length ≤ 8) :
    (deferredTags (offerDeferred d s).upstream).Perm (d.tag :: deferredTags s.upstream) := by
  have placed : ∀ t : State, t.upstream.length < 8 →
      (deferredTags t.upstream).Perm (deferredTags s.upstream) →
      (deferredTags (placeDeferred d t).upstream).Perm (d.tag :: deferredTags s.upstream) := by
    intro t room perm
    unfold placeDeferred
    rw [if_neg (show ¬ Config.upstreamCapacity ≤ t.upstream.length from Nat.not_le_of_lt room)]
    have place := (place_perm ⟨.deferred d, false, false⟩ t.upstream).filterMap UpEntry.deferredTag
    exact place.trans (perm.cons _)
  rw [offerDeferred_eq]
  split
  · next full =>
    obtain ⟨perm, shorter⟩ := makePlace_tags s
    refine placed _ ?_ perm
    have count := length_eq_tags_notices s.upstream
    simp only [List.length_cons] at few
    have less := shorter (by simp only [Config.upstreamCapacity] at full; omega)
    omega
  · next room => exact placed s (Nat.lt_of_not_le room) (.refl _)

/-- The entry found first is the one that is erased. -/
theorem perm_of_find? {α : Type} {p : α → Bool} {l : List α} {a : α} (found : l.find? p = some a) :
    l.Perm (a :: l.eraseP p) := by
  obtain ⟨holds, before, behind, split, none⟩ := List.find?_eq_some_iff_append.mp found
  rw [split, List.eraseP_append_right _ (by simpa using none), List.eraseP_cons_of_pos holds]
  exact List.perm_middle

/-! ### The tags of both queues -/

/-- The tags of forward entries and of the upstream queue are those in use, each once. -/
def TagsAgree (es : List FwdEntry) (tags inUse : List Tag) : Prop :=
  (∀ e ∈ es, e.tag ≠ none → e.frame.opensWindow = true) ∧
  (es.filterMap FwdEntry.tag ++ tags).Nodup ∧ ∀ t, t ∈ inUse ↔ t ∈ es.filterMap FwdEntry.tag ++ tags

theorem tagsOk_iff {s : State} : s.TagsOk ↔ TagsAgree s.forward (deferredTags s.upstream) s.tagsInUse := by
  unfold State.TagsOk State.forwardTags TagsAgree
  rw [upstreamTags_eq]

namespace TagsAgree

variable {es fs : List FwdEntry} {tags others inUse : List Tag}

theorem perm (h : TagsAgree es tags inUse) (p : others.Perm tags) : TagsAgree es others inUse := by
  obtain ⟨windows, nodup, mem⟩ := h
  have both := p.append_left (es.filterMap FwdEntry.tag)
  exact ⟨windows, both.nodup_iff.mpr nodup, fun t => (mem t).trans both.mem_iff.symm⟩

theorem permForward (h : TagsAgree es tags inUse) (p : fs.Perm es) : TagsAgree fs tags inUse := by
  obtain ⟨windows, nodup, mem⟩ := h
  have both := (p.filterMap FwdEntry.tag).append_right tags
  exact ⟨fun e member => windows e (p.mem_iff.mp member), both.nodup_iff.mpr nodup,
    fun t => (mem t).trans both.mem_iff.symm⟩

/-- Entries that are tagged alike and carry the same frames. -/
theorem head {d e : FwdEntry} (h : TagsAgree (e :: es) tags inUse) (tag : d.tag = e.tag) (frame : d.frame = e.frame) :
    TagsAgree (d :: es) tags inUse := by
  obtain ⟨windows, nodup, mem⟩ := h
  obtain ⟨first, rest⟩ := List.forall_mem_cons.mp windows
  have same : (d :: es).filterMap FwdEntry.tag = (e :: es).filterMap FwdEntry.tag := by
    rw [List.filterMap_cons, List.filterMap_cons, tag]
  unfold TagsAgree
  rw [same]
  exact ⟨List.forall_mem_cons.mpr ⟨by rwa [tag, frame], rest⟩, nodup, mem⟩

theorem untagged {e : FwdEntry} (none : e.tag = none) :
    TagsAgree (e :: es) tags inUse ↔ TagsAgree es tags inUse := by
  unfold TagsAgree
  rw [List.filterMap_cons_none none, List.forall_mem_cons]
  simp [none]

/-- The tag of an entry that leaves passes to its DEFERRED REPLY. -/
theorem moved {e : FwdEntry} {t : Tag} (h : TagsAgree (e :: es) tags inUse) (tagged : e.tag = some t) :
    TagsAgree es (t :: tags) inUse := by
  obtain ⟨windows, nodup, mem⟩ := h
  rw [List.filterMap_cons_some tagged] at nodup mem
  have p : (es.filterMap FwdEntry.tag ++ t :: tags).Perm (t :: es.filterMap FwdEntry.tag ++ tags) :=
    List.perm_middle
  exact ⟨fun d member => windows d (List.mem_cons_of_mem _ member), p.nodup_iff.mpr nodup,
    fun u => (mem u).trans p.mem_iff.symm⟩

/-- The tags of the upstream queue are no more than those in use. -/
theorem length_le (h : TagsAgree es tags inUse) : tags.length ≤ inUse.length := by
  obtain ⟨-, nodup, mem⟩ := h
  exact length_le_of_subset (List.nodup_append.mp nodup).2.1 fun t member =>
    (mem t).mpr (List.mem_append_right _ member)

end TagsAgree

/-- What must be known of both queues when entries leave the forward queue with their DEFERRED REPLY. -/
def State.Leaving (s : State) (es : List FwdEntry) : Prop :=
  TagsAgree es (deferredTags s.upstream) s.tagsInUse ∧ QueueFits s.upstream ∧ s.tagsInUse.length ≤ 8

/-- An entry leaves: a tagged one's tag passes to its DEFERRED REPLY (R138, R142). -/
theorem State.Leaving.endTagged {s : State} {e : FwdEntry} {es : List FwdEntry} (h : s.Leaving (e :: es))
    (o : DeferralOutcome) (noisy : Bool) (data : List Byte) : (endTagged e o noisy data s).Leaving es := by
  obtain ⟨agree, fits, few⟩ := h
  have frame := endTagged_frame e o noisy data s
  have fits' := endTagged_fits e o noisy data fits
  have tags : (Machine.endTagged e o noisy data s).tagsInUse = s.tagsInUse := by
    unfold UpstreamFrame at frame
    rw [frame]
  refine ⟨?_, fits', tags ▸ few⟩
  rw [tags]
  unfold Machine.endTagged
  split
  · next t tagged =>
    have moved := agree.moved tagged
    exact moved.perm (offerDeferred_tags _ fits.1 (Nat.le_trans moved.length_le few))
  · next none => exact (TagsAgree.untagged none).mp agree

theorem leaving_iff {s : State} : s.Leaving s.forward ↔
    s.TagsOk ∧ QueueFits s.upstream ∧ s.tagsInUse.length ≤ 8 := by
  rw [tagsOk_iff]
  exact Iff.rfl

namespace State.TagsOk

variable {s t : State}

/-- The invariant reads these three fields. -/
theorem same (h : s.TagsOk) (read : t.forward = s.forward ∧ t.upstream = s.upstream ∧
    t.tagsInUse = s.tagsInUse) : t.TagsOk := by
  obtain ⟨forward, upstream, tags⟩ := read
  rw [tagsOk_iff] at h ⊢
  rwa [forward, upstream, tags]

theorem ofConfig (h : s.TagsOk) (f : ConfigFrame s t) : t.TagsOk := by
  unfold ConfigFrame at f
  exact h.same (by rw [f]; and_intros <;> rfl)

theorem ofQuiet (h : s.TagsOk) (f : Quiet s t) : t.TagsOk := by
  unfold Quiet at f
  exact h.same (by rw [f]; and_intros <;> rfl)

theorem noticeOf (h : s.TagsOk) (e : Event) : (noticeOf e s).TagsOk := by
  rw [tagsOk_iff] at h ⊢
  have tags := noticeOf_tags e s
  have frame := noticeOf_frame e s
  unfold UpstreamFrame at frame
  rw [frame] at tags ⊢
  exact h.perm tags

end State.TagsOk

/-- Scans, passes and events keep the tags. -/
theorem tagsScanRule : ScanRule State.TagsOk State.TagsOk :=
  .ofBlind (fun _ _ _ h => h.same ⟨rfl, rfl, rfl⟩) (fun _ h => h.same (by simp))
    (fun s a h => h.ofConfig (recompute_frame s a).config) fun e _ h => h.noticeOf e

/-- What is known when a command begins. -/
def State.TagsBefore (s : State) : Prop := s.CapacitiesOk ∧ s.OwnersOk ∧ s.TagsOk

namespace State.Leaving

variable {s : State}

theorem flushForward (h : s.Leaving s.forward) : (flushForward s).TagsOk := by
  have flushed : ∀ (es : List FwdEntry) (t : State), t.Leaving es → (es.foldl flushEntry t).Leaving [] := by
    intro es
    induction es with
    | nil => exact fun _ k => k
    | cons e es ih =>
      refine fun t k => ih _ ?_
      unfold flushEntry
      split
      · exact k.endTagged _ _ _
      · next none =>
        obtain ⟨agree, fits, few⟩ := k
        exact ⟨(TagsAgree.untagged none).mp agree, fits, few⟩
  rw [tagsOk_iff, flushForward_forward]
  exact (flushed s.forward { s with forward := [] } h).1

theorem suspended (h : s.Leaving s.forward) :
    (suspendScan (rowMapLost (rowPortLost s))).Leaving (suspendScan (rowMapLost (rowPortLost s))).forward := by
  have lost := rowMapLost_frame (rowPortLost s)
  generalize rowMapLost (rowPortLost s) = t at lost ⊢
  unfold RowMapFrame at lost
  rw [lost]
  exact h

end State.Leaving

namespace State.TagsBefore

variable {s t : State}

theorem leaving (h : s.TagsBefore) : s.Leaving s.forward := by
  obtain ⟨capacities, -, tags⟩ := h
  obtain ⟨-, fits, -, few, -⟩ := (capacitiesOk_iff s).mp capacities
  exact leaving_iff.mpr ⟨tags, fits, few⟩

theorem expire (h : s.TagsBefore) (t : Tag) : (expire t s).TagsOk := by
  unfold Machine.expire
  split
  · next e found =>
    have perm := perm_of_find? found
    obtain ⟨agree, fits, few⟩ := h.leaving
    have left : ({ s with forward := s.forward.eraseP (FwdEntry.expired s.clock t) } : State).Leaving
        (e :: s.forward.eraseP (FwdEntry.expired s.clock t)) := ⟨agree.permForward perm.symm, fits, few⟩
    have ended := left.endTagged (if s.power.present then .timeout else .noPower) false []
    rw [tagsOk_iff]
    have frame := endTagged_frame e (if s.power.present then .timeout else .noPower) false []
      { s with forward := s.forward.eraseP (FwdEntry.expired s.clock t) }
    have forward := congrArg State.forward frame
    rw [forward]
    exact ended.1
  · exact h.2.2

/-- An entry whose DEFERRED REPLY no one awaits leaves the row. -/
theorem popForward (h : s.TagsBefore) {f : RowFrame} (row : s.rowTx = .onRow f) (own : f.owner = .forward)
    (untagged : f.frame.opensWindow = false ∨ ∀ e q, s.forward = e :: q → e.tag = none) :
    (Machine.enterGap (Machine.popForward s)).TagsOk := by
  obtain ⟨-, owners, tags⟩ := h
  rw [tagsOk_iff] at tags ⊢
  show TagsAgree s.forward.tail (deferredTags s.upstream) s.tagsInUse
  obtain ⟨-, frame, -⟩ := owners
  cases forward : s.forward with
  | nil => rwa [forward] at tags
  | cons e q =>
    rw [forward] at tags
    refine (TagsAgree.untagged ?_).mp tags
    obtain closed | none := untagged
    · refine Classical.byContradiction fun tagged => ?_
      have opens := tags.1 e List.mem_cons_self tagged
      rw [frame f e q row own forward, closed] at opens
      cases opens
    · exact none e q forward

theorem closeDeferred (h : s.TagsBefore) {e : FwdEntry} {q : List FwdEntry} (o : WindowOutcome)
    (forward : s.forward = e :: q) :
    (deferredOutcome e o (Machine.enterGap (Machine.popForward s))).TagsOk := by
  have popped : (Machine.enterGap (Machine.popForward s)).Leaving (e :: q) := by
    have leaving := h.leaving
    rwa [forward] at leaving
  have tail : (Machine.enterGap (Machine.popForward s)).forward = q := by
    show s.forward.tail = q
    rw [forward]
    rfl
  have ended : ∀ o noisy data,
      (endTagged e o noisy data (Machine.enterGap (Machine.popForward s))).TagsOk := by
    intro o noisy data
    have left := popped.endTagged o noisy data
    have frame := congrArg State.forward
      (endTagged_frame e o noisy data (Machine.enterGap (Machine.popForward s)))
    rw [tagsOk_iff, frame, tail]
    exact left.1
  cases o <;> exact ended _ _ _

theorem rowPowerLost (h : s.TagsBefore) : (rowPowerLost s).TagsOk := by
  have absent : ({ s with power := { s.power with present := false } } : State).Leaving s.forward := h.leaving
  exact tagsScanRule.raise _ (absent.suspended.flushForward.ofConfig (verifyLost_frame _))

end State.TagsBefore

/-- With both queues empty, no tag is in use. -/
theorem tags_of_empty {s : State} (forward : s.forward = []) (upstream : s.upstream = [])
    (tags : s.tagsInUse = []) : s.TagsOk := by
  rw [tagsOk_iff, forward, upstream, tags]
  exact ⟨nofun, List.nodup_nil, fun _ => Iff.rfl⟩

/-- The frames sent are those that do not stay (R17). -/
theorem sentTags_eq (q : List UpEntry) :
    sentTags q = deferredTags (q.filter fun e => !(!e.sending || e.merged)) := by
  unfold sentTags deferredTags
  rw [List.filterMap_filter]
  refine congrArg (fun f => q.filterMap f) (funext fun e => ?_)
  obtain ⟨item, sending, merged⟩ := e
  cases item <;> cases sending <;> cases merged <;> rfl

namespace State.TagsOk

variable {s t : State}

/-- A deferral takes a tag that is not in use (R134, R135). -/
theorem defer (h : s.TagsOk) {f : Frame} (opens : f.opensWindow = true) : (defer f s).TagsOk := by
  unfold Machine.defer
  dsimp only
  split
  · exact h.same ⟨rfl, rfl, rfl⟩
  · split
    · next t free =>
      have unused := (nextTag_spec _ _ _ free)
      rw [tagsOk_iff] at h ⊢
      have joined : TagsAgree (⟨f, some t, false, f.unit, some (s.clock + BitVec.ofNat 32 Config.deferralMs)⟩ ::
          s.forward) (deferredTags s.upstream) (s.tagsInUse ++ [t]) := by
        obtain ⟨windows, nodup, mem⟩ := h
        refine ⟨List.forall_mem_cons.mpr ⟨fun _ => opens, windows⟩, ?_, fun u => ?_⟩
        · exact List.nodup_cons.mpr ⟨fun used => unused ((mem t).mpr used), nodup⟩
        · rw [List.mem_append, mem u, List.mem_singleton]
          exact or_comm.trans List.mem_cons.symm
      exact joined.permForward (List.perm_append_singleton _ _)
    · exact h.same ⟨rfl, rfl, rfl⟩

theorem forwardUntagged (h : s.TagsOk) (f : Frame) : (forwardUntagged f s).TagsOk := by
  unfold Machine.forwardUntagged
  split
  · exact h.same ⟨rfl, rfl, rfl⟩
  · rw [tagsOk_iff] at h ⊢
    have joined := (TagsAgree.untagged (e := ⟨f, none, false, f.unit, none⟩) rfl).mpr h
    exact joined.permForward (List.perm_append_singleton _ _)

/-- The tags of the frames that were sent are released (R135). -/
theorem finishSending (h : s.TagsOk) (flag : Bool) : (finishSending flag s).TagsOk := by
  rw [tagsOk_iff] at h ⊢
  obtain ⟨windows, nodup, mem⟩ := h
  have kept : deferredTags (settleSent s.upstream) =
      deferredTags (s.upstream.filter fun e => !e.sending || e.merged) :=
    deferredTags_map deferredTag_unmark _
  have both : (deferredTags (settleSent s.upstream) ++ sentTags s.upstream).Perm (deferredTags s.upstream) := by
    rw [kept, sentTags_eq]
    have split := (List.filter_append_perm (fun e : UpEntry => !e.sending || e.merged) s.upstream).filterMap
      UpEntry.deferredTag
    rwa [List.filterMap_append] at split
  have parts : (s.forward.filterMap FwdEntry.tag ++ deferredTags (settleSent s.upstream) ++
      sentTags s.upstream).Perm (s.forward.filterMap FwdEntry.tag ++ deferredTags s.upstream) := by
    rw [List.append_assoc]
    exact both.append_left _
  obtain ⟨nodupKept, -, apart⟩ := List.nodup_append.mp (parts.nodup_iff.mpr nodup)
  refine ⟨windows, nodupKept, fun t => ?_⟩
  have used := (mem t).trans parts.mem_iff.symm
  rw [List.mem_append] at used
  show t ∈ s.tagsInUse.filter _ ↔ _
  rw [List.mem_filter, used]
  have disjoint : t ∈ s.forward.filterMap FwdEntry.tag ++ deferredTags (settleSent s.upstream) →
      t ∉ sentTags s.upstream := fun left right => apart t left t right rfl
  simp only [Bool.not_eq_true', List.contains_eq_mem, decide_eq_false_iff_not]
  exact ⟨fun ⟨either, unsent⟩ => either.resolve_right unsent, fun kept => ⟨.inl kept, disjoint kept⟩⟩

theorem powerOn (straps : Fin 16) (above : Bool) (s : State) : (powerOn straps above s).TagsOk := by
  have blocks : (powerOnBlocks straps above s).TagsOk := tags_of_empty rfl rfl rfl
  exact tagsScanRule.raise _ blocks

theorem warmRestart (s : State) : (warmRestart s).TagsOk := by
  have blocks : (warmBlocks s).TagsOk := tags_of_empty rfl rfl rfl
  unfold Machine.warmRestart
  dsimp only
  refine tagsScanRule.raise _ ?_
  split
  · have returned := blocks.ofConfig (rowMapReturned_frame _).config
    exact tagsScanRule.resumeScan (returned.same ⟨rfl, rfl, rfl⟩)
  · exact blocks

theorem rowPowerReturned (h : s.TagsOk) : (rowPowerReturned s).TagsOk := by
  have gap : (enterGap { s with power := { s.power with present := true } }).TagsOk := h.same ⟨rfl, rfl, rfl⟩
  have returned := gap.ofConfig (rowMapReturned_frame _).config
  exact tagsScanRule.raise _ (tagsScanRule.resumeScan (returned.same ⟨rfl, rfl, rfl⟩))

theorem startHead (h : s.TagsOk) : (startHead s).TagsOk := by
  unfold Machine.startHead
  split
  · exact h
  · next e q upstream =>
    rw [tagsOk_iff] at h ⊢
    rw [upstream] at h
    exact h

theorem loseHead (h : s.TagsOk) : ({ s with upstream := s.upstream.map UpEntry.unmark } : State).TagsOk := by
  rw [tagsOk_iff] at h ⊢
  dsimp only
  rwa [deferredTags_map deferredTag_unmark]

theorem channelWrite (h : s.TagsOk) (c : ChannelId) (v : ChannelConfig) : (applyChannelWrite c v s).TagsOk := by
  unfold applyChannelWrite
  dsimp only
  split
  · exact h.same ⟨rfl, rfl, rfl⟩
  · refine tagsScanRule.reviseScan ?_
    unfold disregardQuery
    split <;> exact h.same ⟨rfl, rfl, rfl⟩

theorem finishLevel (h : s.TagsOk) : (finishLevel s).TagsOk := by
  unfold Machine.finishLevel
  split
  · exact h.same ⟨rfl, rfl, rfl⟩
  · next m _ =>
    have completed := h.ofConfig (RowMapFrame.foldl (completeCovered_frame m.level) m.covered s).config
    exact completed.same ⟨rfl, rfl, rfl⟩

/-- The head that starts stays in its queue, with its tag. -/
theorem arbitrate (s : State) (h : s.TagsOk) : (arbitrate s).TagsOk := by
  refine arbitrate_induction (fun _ k => k.same ⟨rfl, rfl, rfl⟩) ?level ?forward
    (fun _ _ _ _ _ k => k.same ⟨rfl, rfl, rfl⟩) (fun _ _ _ _ _ _ k => k.same ⟨rfl, rfl, rfl⟩)
    (fun _ _ _ _ _ _ k => k.same ⟨rfl, rfl, rfl⟩) s h
  case level =>
    intro s unit head covered _ _ _ k
    have record : ({ startRow (levelFrame s unit head) .level s with
        emission := some ⟨covered, (s.lum head).output⟩ } : State).TagsOk := k.same ⟨rfl, rfl, rfl⟩
    exact record.ofConfig (RowMapFrame.foldl (startCovered_frame _) covered _).config
  case forward =>
    intro s t e q _ forward frame k
    have started : (startRow e.frame .forward { s with forward := { e with onRow := true } :: q }).TagsOk := by
      rw [tagsOk_iff, forward] at k
      exact tagsOk_iff.mpr (k.head (d := { e with onRow := true }) rfl rfl)
    exact started.ofConfig frame.rowMap.config

end State.TagsOk

/-- Every command keeps the tags, where the capacities and the row's records hold. -/
theorem tagsRule : StepRule State.TagsBefore State.TagsOk where
  start _ h := h.2.2
  quietBefore h q := ⟨h.1.ofQuiet q, h.2.1.ofQuiet q, h.2.2.ofQuiet q⟩
  quiet h := h.ofQuiet
  countBefore _ _ ok h :=
    ⟨h.1.counted ok, h.2.1.same ⟨rfl, rfl, rfl, rfl, rfl, rfl, rfl, rfl⟩, h.2.2.same ⟨rfl, rfl, rfl⟩⟩
  count _ _ _ h := h.same ⟨rfl, rfl, rfl⟩
  powerOn straps above s _ := .powerOn straps above s
  warmRestart s _ := .warmRestart s
  rowPowerLost _ h := h.rowPowerLost
  rowPowerReturned _ _ h := .rowPowerReturned h.2.2
  startHead _ h := .startHead h.2.2
  loseHead _ h := .loseHead h.2.2
  finishSending flag _ h := .finishSending h.2.2 flag
  absorb level fade s a _ h := h.ofConfig (absorb_frame level fade s a).config
  forwardUntagged f _ h := .forwardUntagged h f
  defer _ _ opens h := .defer h.2.2 opens
  rowWrite a r s _ h := h.2.2.ofConfig (applyRowWrite_frame a r s)
  zoneWrite z c s _ h := h.2.2.ofConfig (applyZoneWrite_frame z c s)
  channelWrite c v _ _ h := .channelWrite h.2.2 c v
  groupWrite _ _ _ h := h.2.2.same ⟨rfl, rfl, rfl⟩
  routeWrite _ _ _ _ h := h.2.2.same ⟨rfl, rfl, rfl⟩
  settingsWrite k t _ _ h := tagsScanRule.applySettingsWrite k t
    (fun _ _ => h.2.2.same ⟨rfl, rfl, rfl⟩) (h.2.2.same ⟨rfl, rfl, rfl⟩)
  loadRow _ _ _ _ h := h.2.2.same ⟨rfl, rfl, rfl⟩
  changeMode change s z _ _ h := h.ofConfig (changeMode_configFrame change s z)
  trigger urgent _ h := tagsScanRule.trigger urgent h.2.2
  takeTick _ h := tagsScanRule.takeTick h.2.2
  raise e _ h := tagsScanRule.raise e h.2.2
  arbitrate := State.TagsOk.arbitrate
  ready _ _ h := h.2.2.same ⟨rfl, rfl, rfl⟩
  leaveReady _ _ h := h.2.2.same ⟨rfl, rfl, rfl⟩
  finishLevel _ _ _ _ h := .finishLevel h.2.2
  popForward _ _ row own untagged h := h.popForward row own untagged
  closeDeferred _ _ _ _ o _ _ forward h := h.closeDeferred o forward
  closeScan _ _ c _ _ _ h :=
    tagsScanRule.scanOutcome_of_blind (fun _ _ _ k => k.same ⟨rfl, rfl, rfl⟩) c _
      (h.2.2.same ⟨rfl, rfl, rfl⟩) (h.2.2.same ⟨rfl, rfl, rfl⟩)
  closeVerify _ _ o _ _ h :=
    tagsScanRule.verifyOutcome (fun s a l _ k => k.ofConfig (setLum_frame s a l).config)
      (fun s a _ _ k => k.ofConfig (reportMismatch_frame a s).config) o
      (h.2.2.same ⟨rfl, rfl, rfl⟩) fun _ => h.2.2.same ⟨rfl, rfl, rfl⟩
  closeAlignment s _ o _ _ h :=
    State.TagsOk.ofConfig (h.2.2.same (t := enterGap s) ⟨rfl, rfl, rfl⟩) (alignOutcome_frame o (enterGap s))
  expire t _ h := h.expire t
  saturate _ h := h.2.2.same (by simp [saturateStamps])

/-- Settles O13: every command keeps the tags, by its parts. -/
theorem stepKeepsTags : Obligations.StepKeepsTags :=
  fun _ _ => tagsRule.step fun _ _ h =>
    ⟨h.1, h.2.1.same ⟨rfl, rfl, rfl, rfl, rfl, rfl, rfl, rfl⟩, h.2.2⟩

end Sys2Proof.Machine

namespace Sys2Proof.Machine

/-! ## Every step keeps the pending list and the shadow states (O7) -/

/-- What an entry's shadow state means, for an entry that is a LUMINAIRE or is none (R24). -/
def Lum.Sound (l : Lum) (luminaire : Bool) : Prop :=
  (l.shadow = .synced → l.sentValid = true ∧ l.sent = l.output) ∧
  (l.shadow = .pending → l.sentValid = true → l.sent ≠ l.output) ∧
  (l.shadow = .inFlight → l.sentValid = true) ∧
  (luminaire = false → l.shadow = .unknown ∧ l.sentValid = false ∧ l.urgent = false)

theorem entryOk_iff {s : State} {a : Addr} : s.EntryOk a ↔ (s.lum a).Sound (s.isLum a) := Iff.rfl

/-- An entry that is not UNKNOWN is a LUMINAIRE. -/
theorem Lum.Sound.luminaire {l : Lum} {b : Bool} (h : l.Sound b) (known : l.shadow ≠ .unknown) : b = true := by
  obtain ⟨-, -, -, other⟩ := h
  cases b with
  | true => rfl
  | false => exact absurd (other rfl).1 known

/-- An entry in UNKNOWN with S invalid and not urgent is sound, whatever its role. -/
theorem Lum.sound_of_lost {l : Lum} (shadow : l.shadow = .unknown) (invalid : l.sentValid = false)
    (calm : l.urgent = false) (b : Bool) : l.Sound b :=
  ⟨fun k => absurd (shadow.symm.trans k) nofun, fun k => absurd (shadow.symm.trans k) nofun,
    fun k => absurd (shadow.symm.trans k) nofun, fun _ => ⟨shadow, invalid, calm⟩⟩

namespace State.RowMapOk

variable {s t : State}

/-- The invariant reads roles, entries and the pending list. -/
theorem same (h : s.RowMapOk) (roles : ∀ a, t.isLum a = s.isLum a)
    (read : t.lums = s.lums ∧ t.pendingList = s.pendingList) : t.RowMapOk := by
  obtain ⟨lums, list⟩ := read
  obtain ⟨nodup, mem, entries⟩ := h
  have lum : ∀ a, t.lum a = s.lum a := fun a => by
    unfold State.lum
    rw [lums]
  refine ⟨list ▸ nodup, fun a => ?_, fun a => ?_⟩
  · rw [list, lum]
    exact mem a
  · rw [entryOk_iff, lum, roles]
    exact entries a

/-- Tables other than the row map do not matter. -/
theorem kept (h : s.RowMapOk) (read : t.tables.rowMap = s.tables.rowMap ∧ t.lums = s.lums ∧
    t.pendingList = s.pendingList) : t.RowMapOk := by
  obtain ⟨rows, lums, list⟩ := read
  refine h.same (fun a => ?_) ⟨lums, list⟩
  unfold State.isLum State.row
  rw [rows]

theorem ofQuiet (h : s.RowMapOk) (f : Quiet s t) : t.RowMapOk := by
  unfold Quiet at f
  exact h.kept (by rw [f]; and_intros <;> rfl)

theorem ofUpstream (h : s.RowMapOk) (f : UpstreamFrame s t) : t.RowMapOk := by
  unfold UpstreamFrame at f
  exact h.kept (by rw [f]; and_intros <;> rfl)

theorem ofRelay (h : s.RowMapOk) (f : RelayFrame s t) : t.RowMapOk := by
  unfold RelayFrame at f
  exact h.kept (by rw [f]; and_intros <;> rfl)

theorem entry (h : s.RowMapOk) (a : Addr) : (s.lum a).Sound (s.isLum a) := h.2.2 a

/-- One entry changes, and the pending list as its shadow state does. -/
theorem changed (h : s.RowMapOk) (a : Addr) (roles : ∀ b, t.isLum b = s.isLum b)
    (others : ∀ b, b ≠ a → t.lum b = s.lum b) (sound : (t.lum a).Sound (s.isLum a))
    (nodup : t.pendingList.Nodup) (kept : ∀ b, b ≠ a → (b ∈ t.pendingList ↔ b ∈ s.pendingList))
    (own : a ∈ t.pendingList ↔ (t.lum a).shadow = .pending) : t.RowMapOk := by
  obtain ⟨-, mem, entries⟩ := h
  refine ⟨nodup, fun b => ?_, fun b => ?_⟩
  · by_cases e : b = a
    · rw [e]
      exact own
    · rw [kept b e, others b e]
      exact mem b
  · rw [entryOk_iff, roles]
    by_cases e : b = a
    · rw [e]
      exact sound
    · rw [others b e]
      exact entries b

/-- An entry changes that is pending exactly if it was. -/
theorem put (h : s.RowMapOk) {a : Addr} {l : Lum} (same : l.shadow = .pending ↔ (s.lum a).shadow = .pending)
    (sound : l.Sound (s.isLum a)) : (s.setLum a l).RowMapOk :=
  h.changed a (fun _ => rfl) (fun b e => lum_setLum_of_ne _ _ e) (by rwa [lum_setLum_self]) h.1 (fun _ _ => Iff.rfl)
    (by rw [lum_setLum_self]; exact (h.2.1 a).trans same.symm)

/-- An entry becomes PENDING and joins the list (R35). -/
theorem join (h : s.RowMapOk) {a : Addr} {l : Lum} (settled : (s.lum a).shadow ≠ .pending)
    (pending : l.shadow = .pending) (sound : l.Sound (s.isLum a)) : (joinPending a (s.setLum a l)).RowMapOk := by
  have absent : a ∉ s.pendingList := fun member => settled ((h.2.1 a).mp member)
  have lum : ∀ b, (joinPending a (s.setLum a l)).lum b = (s.setLum a l).lum b := fun _ => rfl
  refine h.changed a (fun _ => rfl) (fun b e => (lum b).trans (lum_setLum_of_ne _ _ e)) ?_ ?_ (fun b e => ?_) ?_
  · rw [lum, lum_setLum_self]
    exact sound
  · exact nodup_concat h.1 absent
  · simp [joinPending, e]
  · rw [lum, lum_setLum_self]
    simp [joinPending, pending]

/-- An entry leaves the list when it is no longer PENDING (R35). -/
theorem leave (h : s.RowMapOk) {a : Addr} {l : Lum} (settled : l.shadow ≠ .pending)
    (sound : l.Sound (s.isLum a)) : (leavePending a (s.setLum a l)).RowMapOk := by
  have lum : ∀ b, (leavePending a (s.setLum a l)).lum b = (s.setLum a l).lum b := fun _ => rfl
  refine h.changed a (fun _ => rfl) (fun b e => (lum b).trans (lum_setLum_of_ne _ _ e)) ?_ ?_ (fun b e => ?_) ?_
  · rw [lum, lum_setLum_self]
    exact sound
  · exact h.1.erase a
  · simp [leavePending, List.mem_erase_of_ne e]
  · rw [lum, lum_setLum_self]
    simp [leavePending, settled, h.1.not_mem_erase]

/-- Every entry is lost or was none: nothing is pending. -/
theorem of_lost (list : s.pendingList = [])
    (lost : ∀ a, (s.lum a).shadow = .unknown ∧ (s.lum a).sentValid = false ∧ (s.lum a).urgent = false) :
    s.RowMapOk := by
  refine ⟨list ▸ List.nodup_nil, fun a => ?_, fun a => ?_⟩
  · rw [list, (lost a).1]
    simp
  · obtain ⟨shadow, invalid, calm⟩ := lost a
    exact Lum.sound_of_lost shadow invalid calm _

/-! ### Output updates -/

theorem settle_shadow (l : Lum) (urgent : Bool) (fade : Fade) :
    (l.settle urgent fade).shadow = l.shadow ∧ (l.settle urgent fade).sentValid = l.sentValid ∧
    (l.settle urgent fade).sent = l.sent ∧ (l.settle urgent fade).output = l.output := by
  unfold Lum.settle
  split
  · exact ⟨rfl, rfl, rfl, rfl⟩
  · split <;> exact ⟨rfl, rfl, rfl, rfl⟩

/-- An update settles, joins, withdraws or changes an entry by its shadow state (R28 to R30). -/
theorem outputUpdate (h : s.RowMapOk) (a : Addr) (o : Nat) (urgent : Bool) (fade : Fade) :
    (outputUpdate a o urgent fade s).RowMapOk := by
  unfold Machine.outputUpdate
  split
  · exact h
  · have entry := h.entry a
    unfold applyUpdate
    dsimp only
    split
    · next shadow =>
      have luminaire := entry.luminaire (by rw [shadow]; nofun)
      obtain ⟨valid, -⟩ := entry.1 shadow
      rw [luminaire] at entry
      split
      · next level =>
        refine h.put (by simp [shadow]) ?_
        rw [luminaire]
        exact ⟨fun _ => ⟨valid, level.symm⟩, fun k => absurd (shadow.symm.trans k) nofun,
          fun k => absurd (shadow.symm.trans k) nofun, nofun⟩
      · next level =>
        refine h.join (by rw [shadow]; nofun) rfl ?_
        rw [luminaire]
        exact ⟨nofun, fun _ _ same => level same.symm, nofun, nofun⟩
    · next shadow =>
      have luminaire := entry.luminaire (by rw [shadow]; nofun)
      split
      · next back =>
        refine h.leave nofun ?_
        rw [luminaire]
        exact ⟨fun _ => ⟨back.1, back.2.symm⟩, nofun, nofun, nofun⟩
      · next apart =>
        obtain ⟨kept, valid, sent, output⟩ := settle_shadow { s.lum a with output := o } urgent fade
        refine h.put (by rw [kept]) ?_
        unfold Lum.Sound
        rw [luminaire, kept, valid, sent, output]
        exact ⟨fun k => absurd (shadow.symm.trans k) nofun, fun _ isValid same => apart ⟨isValid, same.symm⟩,
          fun k => absurd (shadow.symm.trans k) nofun, nofun⟩
    · next shadow =>
      have luminaire := entry.luminaire (by rw [shadow]; nofun)
      obtain ⟨kept, valid, sent, output⟩ := settle_shadow { s.lum a with output := o } urgent fade
      refine h.put (by rw [kept]) ?_
      unfold Lum.Sound
      rw [luminaire, kept, valid]
      exact ⟨fun k => absurd (shadow.symm.trans k) nofun, fun k => absurd (shadow.symm.trans k) nofun,
        fun _ => entry.2.2.1 shadow, nofun⟩
    · next shadow =>
      refine h.put (by simp) ⟨fun k => absurd (shadow.symm.trans k) nofun,
        fun k => absurd (shadow.symm.trans k) nofun, fun k => absurd (shadow.symm.trans k) nofun, entry.2.2.2⟩

theorem recompute (h : s.RowMapOk) (a : Addr) : (recompute s a).RowMapOk := h.outputUpdate a _ _ _

theorem recomputeZone (h : s.RowMapOk) (z : ZoneId) : (recomputeZone z s).RowMapOk := by
  have updated : ∀ (as : List Addr) (t : State), t.RowMapOk → (as.foldl Machine.recompute t).RowMapOk := by
    intro as
    induction as with
    | nil => exact fun _ k => k
    | cons a as ih => exact fun t k => ih _ (k.recompute a)
  exact updated _ _ h

/-- A change of fields that the invariant does not read. -/
theorem putAside (h : s.RowMapOk) {a : Addr} {l : Lum} (same : l.shadow = (s.lum a).shadow ∧
    l.sentValid = (s.lum a).sentValid ∧ l.sent = (s.lum a).sent ∧ l.output = (s.lum a).output ∧
    l.urgent = (s.lum a).urgent) : (s.setLum a l).RowMapOk := by
  obtain ⟨shadow, valid, sent, output, urgent⟩ := same
  refine h.put (by rw [shadow]) ?_
  have entry := h.entry a
  unfold Lum.Sound at entry ⊢
  rwa [shadow, valid, sent, output, urgent]

theorem absorb (h : s.RowMapOk) (level : Nat) (fade : Fade) (a : Addr) : (absorb level fade s a).RowMapOk :=
  State.RowMapOk.outputUpdate
    (h.putAside (l := { s.lum a with base := level, baseFade := fade }) ⟨rfl, rfl, rfl, rfl, rfl⟩) _ _ _ _

/-! ### Level frames -/

theorem startCovered (h : s.RowMapOk) (level : Nat) {a : Addr} (luminaire : s.isLum a = true) :
    (startCovered level s a).RowMapOk := by
  refine h.leave nofun ?_
  rw [luminaire]
  exact ⟨nofun, nofun, fun _ => rfl, nofun⟩

theorem foldl_startCovered (level : Nat) (as : List Addr) (luminaires : ∀ a ∈ as, s.isLum a = true)
    (h : s.RowMapOk) : (as.foldl (Machine.startCovered level) s).RowMapOk := by
  induction as generalizing s with
  | nil => exact h
  | cons a as ih =>
    exact ih (fun b member => luminaires b (List.mem_cons_of_mem a member))
      (h.startCovered level (luminaires a List.mem_cons_self))

theorem completeCovered (h : s.RowMapOk) (level : Nat) (a : Addr) : (completeCovered level s a).RowMapOk := by
  unfold Machine.completeCovered
  dsimp only
  split
  · next flight =>
    obtain ⟨luminaire, shadow⟩ := flight
    split
    · next level =>
      refine h.put (by simp [shadow]) ?_
      rw [luminaire]
      exact ⟨fun _ => ⟨rfl, level.symm⟩, nofun, nofun, nofun⟩
    · next level =>
      refine h.join (by rw [shadow]; nofun) rfl ?_
      rw [luminaire]
      exact ⟨nofun, fun _ _ same => level same.symm, nofun, nofun⟩
  · exact h

theorem finishLevel (h : s.RowMapOk) : (finishLevel s).RowMapOk := by
  have completed : ∀ (level : Nat) (as : List Addr) (t : State), t.RowMapOk →
      (as.foldl (Machine.completeCovered level) t).RowMapOk := by
    intro level as
    induction as with
    | nil => exact fun _ k => k
    | cons a as ih => exact fun t k => ih _ (k.completeCovered level a)
  unfold Machine.finishLevel
  split
  · exact h.kept ⟨rfl, rfl, rfl⟩
  · exact (completed _ _ s h).kept ⟨rfl, rfl, rfl⟩

theorem ofAligned (h : s.RowMapOk) (f : AlignedFrame s t) : t.RowMapOk := by
  obtain ⟨frame, lum⟩ := f
  obtain ⟨nodup, mem, entries⟩ := h
  have list : t.pendingList = s.pendingList := by rw [frame]
  have roles : ∀ a, t.isLum a = s.isLum a := fun a => by rw [frame]; rfl
  refine ⟨list ▸ nodup, fun a => ?_, fun a => ?_⟩
  · obtain ⟨aligned, same⟩ := lum a
    rw [list, same]
    exact mem a
  · obtain ⟨aligned, same⟩ := lum a
    rw [entryOk_iff, roles, same]
    exact entries a

/-- An entry that waits to be sent is a LUMINAIRE. -/
theorem luminaire_of_waiting (h : s.RowMapOk) {a : Addr}
    (waits : a ∈ s.pendingList ∨ (s.lum a).shadow = .pending) : s.isLum a = true := by
  have pending : (s.lum a).shadow = .pending := waits.elim (h.2.1 a).mp id
  exact (h.entry a).luminaire (by rw [pending]; nofun)

theorem arbitrate (s : State) (h : s.RowMapOk) : (arbitrate s).RowMapOk := by
  refine arbitrate_induction (fun _ k => k.kept ⟨rfl, rfl, rfl⟩) ?level ?forward
    (fun _ _ _ _ _ k => k.kept ⟨rfl, rfl, rfl⟩) (fun _ _ _ _ _ _ k => k.kept ⟨rfl, rfl, rfl⟩)
    (fun _ _ _ _ _ _ k => k.kept ⟨rfl, rfl, rfl⟩) s h
  case level =>
    intro s unit head covered _ _ waiting k
    have record : ({ startRow (levelFrame s unit head) .level s with
        emission := some ⟨covered, (s.lum head).output⟩ } : State).RowMapOk := k.kept ⟨rfl, rfl, rfl⟩
    exact record.foldl_startCovered _ covered fun a member => k.luminaire_of_waiting (waiting a member)
  case forward =>
    intro s t e q _ _ frame k
    have started : (startRow e.frame .forward { s with forward := { e with onRow := true } :: q }).RowMapOk :=
      k.kept ⟨rfl, rfl, rfl⟩
    exact started.ofAligned frame

/-! ### Row power and restarts -/

theorem rowMapLost (h : s.RowMapOk) : (rowMapLost s).RowMapOk := by
  refine of_lost rfl fun a => ?_
  rw [rowMapLost_lum]
  split
  · exact ⟨rfl, rfl, rfl⟩
  · next other => exact (h.entry a).2.2.2 (by simpa using other)

theorem rowMapReturned (h : s.RowMapOk) : (rowMapReturned s).RowMapOk := by
  have frame := rowMapReturned_frame s
  have list : (Machine.rowMapReturned s).pendingList = s.luminaires := by simp only [Machine.rowMapReturned]
  refine ⟨?_, fun a => ?_, fun a => ?_⟩
  · rw [list]
    exact addresses_nodup.filter _
  · rw [list, rowMapReturned_lum, State.luminaires, List.mem_filter]
    by_cases luminaire : s.isLum a = true
    · simp [luminaire, addresses, Lum.return]
    · have shadow := ((h.entry a).2.2.2 (by simpa using luminaire)).1
      simp [luminaire, shadow]
  · rw [entryOk_iff, frame.isLum, rowMapReturned_lum]
    split
    · next luminaire =>
      rw [luminaire]
      exact ⟨nofun, fun _ => nofun, nofun, nofun⟩
    · exact h.entry a

/-- Recomputed outputs after a restart do not matter to entries in UNKNOWN. -/
theorem recomputeAll_of_lost (list : s.pendingList = [])
    (lost : ∀ a, (s.lum a).shadow = .unknown ∧ (s.lum a).sentValid = false ∧ (s.lum a).urgent = false) :
    (recomputeAll s).RowMapOk := by
  refine of_lost (by simp only [recomputeAll, list]) fun a => ?_
  simp only [recomputeAll, State.lum, Vector.getElem_ofFn]
  split <;> exact lost a

end State.RowMapOk

/-- Scans, passes and events keep the row map's rule. -/
theorem rowMapScanRule : ScanRule State.RowMapOk State.RowMapOk :=
  .ofBlind (fun _ _ _ h => h.kept ⟨rfl, rfl, rfl⟩) (fun _ h => h.kept (by simp))
    (fun _ a h => h.recompute a) fun e s h => h.ofUpstream (noticeOf_frame e s)

namespace State.RowMapOk

variable {s t : State}

theorem powerOn (straps : Fin 16) (above : Bool) (s : State) : (powerOn straps above s).RowMapOk := by
  have blocks : (bootState straps above s).RowMapOk := of_lost rfl fun a => by
    rw [bootState_lum]
    exact ⟨rfl, rfl, rfl⟩
  unfold Machine.powerOn
  rw [powerOnBlocks_eq]
  exact rowMapScanRule.raise _ blocks

theorem warmRestart (s : State) : (warmRestart s).RowMapOk := by
  have blocks : (warmBlocks s).RowMapOk := by
    rw [warmBlocks_eq]
    refine recomputeAll_of_lost rfl fun a => ?_
    rw [warmState_lum]
    exact ⟨rfl, rfl, rfl⟩
  unfold Machine.warmRestart
  dsimp only
  refine rowMapScanRule.raise _ ?_
  split
  · exact rowMapScanRule.resumeScan (blocks.rowMapReturned.kept ⟨rfl, rfl, rfl⟩)
  · exact blocks

theorem rowPowerLost (h : s.RowMapOk) : (rowPowerLost s).RowMapOk := by
  have port : (rowPortLost { s with power := { s.power with present := false } }).RowMapOk :=
    h.kept ⟨rfl, rfl, rfl⟩
  have suspended : (suspendScan (Machine.rowMapLost
      (rowPortLost { s with power := { s.power with present := false } }))).RowMapOk :=
    port.rowMapLost.kept ⟨rfl, rfl, rfl⟩
  exact rowMapScanRule.raise _ ((suspended.ofRelay (flushForward_frame _)).kept ⟨rfl, rfl, rfl⟩)

theorem rowPowerReturned (h : s.RowMapOk) : (rowPowerReturned s).RowMapOk := by
  have gap : (enterGap { s with power := { s.power with present := true } }).RowMapOk :=
    h.kept ⟨rfl, rfl, rfl⟩
  exact rowMapScanRule.raise _ (rowMapScanRule.resumeScan (gap.rowMapReturned.kept ⟨rfl, rfl, rfl⟩))

/-! ### Writes -/

/-- The role of a row map entry changes where the entry's shadow state suits both. -/
theorem setRow (h : s.RowMapOk) {a : Addr} {r : RowConfig} (sound : (s.lum a).Sound (r.role == .luminaire)) :
    (s.setRow a r).RowMapOk := by
  obtain ⟨nodup, mem, entries⟩ := h
  refine ⟨nodup, mem, fun b => ?_⟩
  rw [entryOk_iff, State.isLum, row_setRow]
  by_cases e : b = a
  · rw [if_pos e, e]
    exact sound
  · rw [if_neg e]
    exact entries b

theorem revisedLuminaire (h : s.RowMapOk) (a : Addr) (old new : RowConfig) :
    (revisedLuminaire a old new s).RowMapOk := by
  unfold Machine.revisedLuminaire
  dsimp only
  have aligned : (if old.zone = new.zone then s
      else s.setLum a { s.lum a with aligned := false }).RowMapOk := by
    split
    · exact h
    · exact h.putAside ⟨rfl, rfl, rfl, rfl, rfl⟩
  split
  · exact aligned
  · exact aligned.recompute a

theorem leaveLuminaire (h : s.RowMapOk) (a : Addr) : (leaveLuminaire a s).RowMapOk :=
  h.leave nofun (Lum.sound_of_lost rfl rfl rfl _)

theorem newLuminaire (h : s.RowMapOk) {a : Addr} (luminaire : s.isLum a = true)
    (shadow : (s.lum a).shadow = .unknown) : (newLuminaire a s).RowMapOk := by
  have fresh : (s.setLum a (s.lum a).fresh).RowMapOk :=
    h.put (by rw [shadow]; exact ⟨nofun, nofun⟩) (Lum.sound_of_lost rfl rfl rfl _)
  have lum : (s.setLum a (s.lum a).fresh).lum a = (s.lum a).fresh := lum_setLum_self _ _ _
  unfold Machine.newLuminaire
  dsimp only
  split
  · refine fresh.join (by rw [lum]; nofun) rfl ?_
    rw [lum, show (s.setLum a (s.lum a).fresh).isLum a = true from luminaire]
    exact ⟨nofun, fun _ => nofun, nofun, nofun⟩
  · refine fresh.put Iff.rfl ?_
    rw [lum]
    exact Lum.sound_of_lost rfl rfl rfl _

theorem rowWrite (h : s.RowMapOk) (a : Addr) (r : RowConfig) : (applyRowWrite a r s).RowMapOk := by
  have entry := h.entry a
  unfold State.isLum at entry
  unfold applyRowWrite
  dsimp only
  split
  · next old new =>
    rw [old] at entry
    exact (h.setRow (new ▸ entry)).revisedLuminaire a _ _
  · next old new =>
    have left : ((Machine.leaveLuminaire a s).setRow a r).RowMapOk :=
      (h.leaveLuminaire a).setRow (by
        rw [show (Machine.leaveLuminaire a s).lum a = (s.lum a).lose from lum_setLum_self _ _ _]
        exact Lum.sound_of_lost rfl rfl rfl _)
    have same : Machine.leaveLuminaire a (s.setRow a r) = (Machine.leaveLuminaire a s).setRow a r := rfl
    rw [same]
    unfold disregardAlignment
    split
    · split
      · exact left.kept ⟨rfl, rfl, rfl⟩
      · exact left
    · exact left
  · next old new =>
    rw [old] at entry
    obtain ⟨shadow, invalid, calm⟩ := entry.2.2.2 rfl
    refine (h.setRow (a := a) (r := r) (Lum.sound_of_lost shadow invalid calm _)).newLuminaire ?_ shadow
    rw [State.isLum, row_setRow, if_pos rfl]
    exact new
  · next old new =>
    rw [old] at entry
    exact h.setRow (new ▸ entry)

theorem zoneWrite (h : s.RowMapOk) (z : ZoneId) (c : ZoneConfig) : (applyZoneWrite z c s).RowMapOk := by
  have put : (s.setZoneConfig z c).RowMapOk := h.kept ⟨rfl, rfl, rfl⟩
  have moved : ∀ v, (Machine.recomputeZone z ((s.setZoneConfig z c).setZone z v)).RowMapOk := fun v =>
    (put.kept (t := (s.setZoneConfig z c).setZone z v) ⟨rfl, rfl, rfl⟩).recomputeZone z
  unfold applyZoneWrite
  dsimp only
  split
  · exact moved _
  · exact moved _
  · exact put
  · exact put

theorem changeMode (h : s.RowMapOk) (change : ZoneStatus → ZoneStatus) (z : ZoneId) :
    (changeMode change s z).RowMapOk := by
  unfold Machine.changeMode
  split
  · exact h
  · exact (h.kept (t := s.setZone z _) ⟨rfl, rfl, rfl⟩).recomputeZone z

theorem channelWrite (h : s.RowMapOk) (c : ChannelId) (v : ChannelConfig) : (applyChannelWrite c v s).RowMapOk := by
  unfold applyChannelWrite
  dsimp only
  split
  · exact h.kept ⟨rfl, rfl, rfl⟩
  · refine rowMapScanRule.reviseScan ?_
    unfold disregardQuery
    split <;> exact h.kept ⟨rfl, rfl, rfl⟩

/-! ### Verification -/

/-- A mismatch makes a SYNCED entry PENDING with S invalid (R33). -/
theorem reportMismatch (h : s.RowMapOk) {a : Addr} (luminaire : s.isLum a = true)
    (synced : (s.lum a).shadow = .synced) : (reportMismatch a s).RowMapOk := by
  refine h.join (by rw [synced]; nofun) rfl ?_
  rw [luminaire]
  exact ⟨nofun, fun _ => nofun, nofun, nofun⟩

theorem closeAlignment (h : s.RowMapOk) (o : WindowOutcome) : (alignOutcome o s).RowMapOk := by
  unfold alignOutcome
  split
  · exact h
  · next r _ =>
    dsimp only
    split
    · split
      · have put := h.putAside (a := r.addr) (l := { s.lum r.addr with aligned := true }) ⟨rfl, rfl, rfl, rfl, rfl⟩
        exact put.kept ⟨rfl, rfl, rfl⟩
      · exact h.kept ⟨rfl, rfl, rfl⟩
    · exact h.kept ⟨rfl, rfl, rfl⟩

theorem closeVerify (h : s.RowMapOk) (o : WindowOutcome) : (verifyOutcome o s).RowMapOk :=
  rowMapScanRule.verifyOutcome
    (fun s a l same k => k.putAside (by
      obtain ⟨kept, -⟩ := same
      rw [kept]
      exact ⟨rfl, rfl, rfl, rfl, rfl⟩))
    (fun _ _ luminaire synced k => k.reportMismatch luminaire synced) o
    (h.kept ⟨rfl, rfl, rfl⟩) fun _ => h

end State.RowMapOk

/-- Every command keeps the row map's rule. -/
theorem rowMapRule : StepRule State.RowMapOk State.RowMapOk where
  start _ h := h
  quietBefore h := h.ofQuiet
  quiet h := h.ofQuiet
  countBefore _ _ _ h := h.kept ⟨rfl, rfl, rfl⟩
  count _ _ _ h := h.kept ⟨rfl, rfl, rfl⟩
  powerOn straps above s _ := .powerOn straps above s
  warmRestart s _ := .warmRestart s
  rowPowerLost _ h := h.rowPowerLost
  rowPowerReturned _ _ h := h.rowPowerReturned
  startHead s h := by
    unfold startHead
    split
    · exact h
    · exact h.kept ⟨rfl, rfl, rfl⟩
  loseHead _ h := h.kept ⟨rfl, rfl, rfl⟩
  finishSending _ _ h := h.kept ⟨rfl, rfl, rfl⟩
  absorb level fade _ a _ h := h.absorb level fade a
  forwardUntagged f s h := h.ofRelay (forwardUntagged_frame f s)
  defer f s _ h := h.ofRelay (defer_frame f s)
  rowWrite a r _ _ h := h.rowWrite a r
  zoneWrite z c _ _ h := h.zoneWrite z c
  channelWrite c v _ _ h := h.channelWrite c v
  groupWrite _ _ _ h := h.kept ⟨rfl, rfl, rfl⟩
  routeWrite _ _ _ _ h := h.kept ⟨rfl, rfl, rfl⟩
  settingsWrite k t _ _ h := rowMapScanRule.applySettingsWrite k t (fun _ _ => h.kept ⟨rfl, rfl, rfl⟩)
    (h.kept ⟨rfl, rfl, rfl⟩)
  loadRow _ _ _ _ h := h.kept ⟨rfl, rfl, rfl⟩
  changeMode change _ z _ _ h := h.changeMode change z
  trigger urgent _ h := rowMapScanRule.trigger urgent h
  takeTick _ h := rowMapScanRule.takeTick h
  raise e _ h := rowMapScanRule.raise e h
  arbitrate := State.RowMapOk.arbitrate
  ready _ _ h := h.kept ⟨rfl, rfl, rfl⟩
  leaveReady _ _ h := h.kept ⟨rfl, rfl, rfl⟩
  finishLevel _ _ _ _ h := h.finishLevel
  popForward _ _ _ _ _ h := h.kept ⟨rfl, rfl, rfl⟩
  closeDeferred s _ e _ o _ _ _ h :=
    (h.kept (t := enterGap (popForward s)) ⟨rfl, rfl, rfl⟩).ofUpstream (deferredOutcome_frame e o _)
  closeScan s _ c _ _ _ h :=
    rowMapScanRule.scanOutcome_of_blind (fun _ _ _ k => k.kept ⟨rfl, rfl, rfl⟩) c _
      (h.kept ⟨rfl, rfl, rfl⟩) (h.kept ⟨rfl, rfl, rfl⟩)
  closeVerify s _ o _ _ h := (h.kept (t := enterGap s) ⟨rfl, rfl, rfl⟩).closeVerify o
  closeAlignment s _ o _ _ h := (h.kept (t := enterGap s) ⟨rfl, rfl, rfl⟩).closeAlignment o
  expire t s h := h.ofRelay (expire_frame t s)
  saturate _ h := h.kept (by simp [saturateStamps])

end Sys2Proof.Machine

namespace Sys2Proof.Machine

/-! ## Every step keeps what UNKNOWN and IN FLIGHT mean (O7) -/

/-- A change of an entry by which none gets IN FLIGHT or another S there, and none keeps a valid S in UNKNOWN. -/
def Lum.FlightStep (l m : Lum) : Prop :=
  (m.shadow = .unknown → m.sentValid = false ∨ l.shadow = .unknown ∧ m.sentValid = l.sentValid) ∧
  (m.shadow = .inFlight → l.shadow = .inFlight ∧ m.sent = l.sent)

theorem Lum.FlightStep.refl (l : Lum) : l.FlightStep l := ⟨fun k => .inr ⟨k, rfl⟩, fun k => ⟨k, rfl⟩⟩

theorem Lum.FlightStep.trans {l m n : Lum} (h : l.FlightStep m) (k : m.FlightStep n) : l.FlightStep n := by
  refine ⟨fun unknown => ?_, fun flight => ?_⟩
  · obtain invalid | ⟨was, same⟩ := k.1 unknown
    · exact .inl invalid
    · obtain invalid | ⟨earlier, same'⟩ := h.1 was
      · exact .inl (same.trans invalid)
      · exact .inr ⟨earlier, same.trans same'⟩
  · obtain ⟨was, same⟩ := k.2 flight
    obtain ⟨earlier, same'⟩ := h.2 was
    exact ⟨earlier, same.trans same'⟩

/-- An entry that is settled, pending or lost was not left in flight. -/
theorem Lum.FlightStep.of_landed {l m : Lum} (landed : m.shadow ≠ .inFlight)
    (lost : m.shadow = .unknown → m.sentValid = false) : l.FlightStep m :=
  ⟨fun k => .inl (lost k), fun k => absurd k landed⟩

/-- Shadow state, S and its validity stay. -/
theorem Lum.FlightStep.of_same {l m : Lum} (shadow : m.shadow = l.shadow) (valid : m.sentValid = l.sentValid)
    (sent : m.sent = l.sent) : l.FlightStep m :=
  ⟨fun k => .inr ⟨shadow ▸ k, valid⟩, fun k => ⟨shadow ▸ k, sent⟩⟩

/-- The entries change in ways that let none take off, and the row's frame and record stay. -/
def Flown (s t : State) : Prop :=
  (∀ a, (s.lum a).FlightStep (t.lum a)) ∧ t.emission = s.emission ∧ t.rowTx = s.rowTx

namespace Flown

variable {s t u : State}

theorem trans (h : Flown s t) (k : Flown t u) : Flown s u :=
  ⟨fun a => (h.1 a).trans (k.1 a), k.2.1.trans h.2.1, k.2.2.trans h.2.2⟩

theorem same (read : t.lums = s.lums ∧ t.emission = s.emission ∧ t.rowTx = s.rowTx) : Flown s t := by
  obtain ⟨lums, emission, row⟩ := read
  refine ⟨fun a => ?_, emission, row⟩
  unfold State.lum
  rw [lums]
  exact .refl _

theorem refl (s : State) : Flown s s := .same ⟨rfl, rfl, rfl⟩

theorem ofQuiet (f : Quiet s t) : Flown s t := by
  unfold Quiet at f
  exact .same (by rw [f]; and_intros <;> rfl)

theorem ofUpstream (f : UpstreamFrame s t) : Flown s t := by
  unfold UpstreamFrame at f
  exact .same (by rw [f]; and_intros <;> rfl)

theorem ofRelay (f : RelayFrame s t) : Flown s t := by
  unfold RelayFrame at f
  exact .same (by rw [f]; and_intros <;> rfl)

theorem ofRowMap (f : RowMapFrame s t) (lums : ∀ a, (s.lum a).FlightStep (t.lum a)) : Flown s t := by
  unfold RowMapFrame at f
  exact ⟨lums, by rw [f], by rw [f]⟩

theorem put (s : State) (a : Addr) {l : Lum} (step : (s.lum a).FlightStep l) : Flown s (s.setLum a l) := by
  refine .ofRowMap (setLum_frame s a l) fun b => ?_
  rw [lum_setLum]
  split
  · next e =>
    subst e
    exact step
  · exact .refl _

theorem outputUpdate (a : Addr) (o : Nat) (urgent : Bool) (fade : Fade) (s : State) :
    Flown s (outputUpdate a o urgent fade s) := by
  unfold Machine.outputUpdate
  split
  · exact .refl s
  · obtain ⟨shadow, valid, sent, -⟩ :=
      State.RowMapOk.settle_shadow { s.lum a with output := o } urgent fade
    unfold applyUpdate
    dsimp only
    split
    · split
      · exact put s a (.of_same rfl rfl rfl)
      · next synced _ => exact put s a (.of_landed nofun nofun)
    · split
      · exact put s a (.of_landed nofun nofun)
      · exact put s a (.of_same shadow valid sent)
    · exact put s a (.of_same shadow valid sent)
    · exact put s a (.of_same rfl rfl rfl)

theorem recompute (s : State) (a : Addr) : Flown s (recompute s a) := .outputUpdate _ _ _ _ _

theorem foldl {f : State → Addr → State} (step : ∀ s a, Flown s (f s a)) (as : List Addr) (s : State) :
    Flown s (as.foldl f s) := by
  induction as generalizing s with
  | nil => exact .refl s
  | cons a as ih => exact (step s a).trans (ih _)

theorem recomputeZone (z : ZoneId) (s : State) : Flown s (recomputeZone z s) := foldl recompute _ s

theorem absorb (level : Nat) (fade : Fade) (s : State) (a : Addr) : Flown s (absorb level fade s a) :=
  (put s a (l := { s.lum a with base := level, baseFade := fade }) (.of_same rfl rfl rfl)).trans
    (.outputUpdate _ _ _ _ _)

theorem ofAligned (f : AlignedFrame s t) : Flown s t := by
  refine .ofRowMap f.rowMap fun a => ?_
  obtain ⟨aligned, same⟩ := f.2 a
  rw [same]
  exact .of_same rfl rfl rfl

theorem rowMapLost (s : State) : Flown s (rowMapLost s) := by
  refine .ofRowMap (rowMapLost_frame s) fun a => ?_
  rw [rowMapLost_lum]
  split
  · exact .of_landed nofun fun _ => rfl
  · exact .refl _

theorem rowMapReturned (s : State) : Flown s (rowMapReturned s) := by
  refine .ofRowMap (rowMapReturned_frame s) fun a => ?_
  rw [rowMapReturned_lum]
  split
  · exact .of_landed nofun nofun
  · exact .refl _

theorem reportMismatch (a : Addr) (s : State) : Flown s (reportMismatch a s) :=
  put s a (l := { s.lum a with
    shadow := .pending, sentValid := false, urgent := false, emissionFade := s.updateFade a })
    (.of_landed nofun nofun)

/-! ### Writes -/

theorem revisedLuminaire (a : Addr) (old new : RowConfig) (s : State) :
    Flown s (revisedLuminaire a old new s) := by
  unfold Machine.revisedLuminaire
  dsimp only
  have aligned : Flown s (if old.zone = new.zone then s else s.setLum a { s.lum a with aligned := false }) := by
    split
    · exact .refl s
    · exact put s a (.of_same rfl rfl rfl)
  split
  · exact aligned
  · exact aligned.trans (.recompute _ a)

theorem newLuminaire (a : Addr) (s : State) : Flown s (newLuminaire a s) := by
  have fresh : Flown s (s.setLum a (s.lum a).fresh) := put s a (.of_landed nofun fun _ => rfl)
  have lum : (s.setLum a (s.lum a).fresh).lum a = (s.lum a).fresh := lum_setLum_self _ _ _
  unfold Machine.newLuminaire
  dsimp only
  split
  · exact fresh.trans (put _ a (l := { (s.setLum a (s.lum a).fresh).lum a with
      output := (s.setLum a (s.lum a).fresh).outputOf a, shadow := .pending }) (.of_landed nofun nofun))
  · exact fresh.trans (put _ a (.of_same rfl rfl rfl))

theorem rowWrite (a : Addr) (r : RowConfig) (s : State) : Flown s (applyRowWrite a r s) := by
  refine trans (t := s.setRow a r) (.same ⟨rfl, rfl, rfl⟩) ?_
  unfold applyRowWrite
  dsimp only
  split
  · exact .revisedLuminaire a _ _ _
  · have left : Flown (s.setRow a r) (leaveLuminaire a (s.setRow a r)) :=
      put _ a (l := ((s.setRow a r).lum a).lose) (.of_landed nofun fun _ => rfl)
    refine left.trans ?_
    unfold disregardAlignment
    split
    · split
      · exact .same ⟨rfl, rfl, rfl⟩
      · exact .refl _
    · exact .refl _
  · exact .newLuminaire a _
  · exact .refl _

theorem moveZone (z : ZoneId) (v : ZoneStatus) (s : State) : Flown s (Machine.recomputeZone z (s.setZone z v)) :=
  trans (t := s.setZone z v) (.same ⟨rfl, rfl, rfl⟩) (.recomputeZone z _)

theorem zoneWrite (z : ZoneId) (c : ZoneConfig) (s : State) : Flown s (applyZoneWrite z c s) := by
  refine trans (t := s.setZoneConfig z c) (.same ⟨rfl, rfl, rfl⟩) ?_
  unfold applyZoneWrite
  dsimp only
  split
  · exact .moveZone z _ _
  · exact .moveZone z _ _
  · exact .refl _
  · exact .refl _

theorem changeMode (change : ZoneStatus → ZoneStatus) (z : ZoneId) (s : State) :
    Flown s (changeMode change s z) := by
  unfold Machine.changeMode
  split
  · exact .refl s
  · exact .moveZone z _ s

theorem alignOutcome (o : WindowOutcome) (s : State) : Flown s (alignOutcome o s) := by
  unfold Machine.alignOutcome
  split
  · exact .refl s
  · next r _ =>
    dsimp only
    split
    · split
      · exact trans (put s r.addr (l := { s.lum r.addr with aligned := true }) (.of_same rfl rfl rfl))
          (.same ⟨rfl, rfl, rfl⟩)
      · exact .same ⟨rfl, rfl, rfl⟩
    · exact .same ⟨rfl, rfl, rfl⟩

end Flown

/-- What every command leaves: the meaning of the shadow states, and no record where the arbiter chooses. -/
def State.Flying (s : State) : Prop := s.FlightOk ∧ (s.rowTx = .ready → s.emission = none)

/-- What is known when a command begins. -/
def State.FlightBefore (s : State) : Prop := s.RowMapOk ∧ s.OwnersOk ∧ s.FlightOk

namespace State.FlightOk

variable {s t : State}

/-- The entries let none take off, the record stays, and no other level frame starts. -/
theorem moved (h : s.FlightOk) (lums : ∀ a, (s.lum a).FlightStep (t.lum a)) (emission : t.emission = s.emission)
    (row : ∀ f, t.rowTx = .onRow f → f.owner = .level → s.rowTx = .onRow f) : t.FlightOk := by
  obtain ⟨unknown, flight, record⟩ := h
  refine ⟨fun a k => ?_, fun a k => ?_, fun m k => ?_⟩
  · obtain invalid | ⟨was, same⟩ := (lums a).1 k
    · exact invalid
    · exact same.trans (unknown a was)
  · obtain ⟨was, same⟩ := (lums a).2 k
    rw [emission, same]
    exact flight a was
  · rw [emission] at k
    obtain ⟨nodup, frame⟩ := record m k
    exact ⟨nodup, fun f onRow own => frame f (row f onRow own) own⟩

theorem flown (h : s.FlightOk) (f : Flown s t) : t.FlightOk :=
  h.moved f.1 f.2.1 fun _ onRow _ => f.2.2 ▸ onRow

/-- None is in flight, and there is no record. -/
theorem of_landed (landed : ∀ a, (s.lum a).shadow ≠ .inFlight)
    (lost : ∀ a, (s.lum a).shadow = .unknown → (s.lum a).sentValid = false) (emission : s.emission = none) :
    s.FlightOk :=
  ⟨lost, fun a k => absurd k (landed a), fun _ k => absurd (emission.symm.trans k) nofun⟩

end State.FlightOk

namespace State.Flying

variable {s t : State}

theorem flown (h : s.Flying) (f : Flown s t) : t.Flying := by
  refine ⟨h.1.flown f, fun ready => ?_⟩
  obtain ⟨-, emission, row⟩ := f
  exact emission.trans (h.2 (row ▸ ready))

theorem same (h : s.Flying) (read : t.lums = s.lums ∧ t.emission = s.emission ∧ t.rowTx = s.rowTx) :
    t.Flying := h.flown (.same read)

/-- The transmitter moves to a state without a level frame. -/
theorem row (h : s.FlightOk) (lums : t.lums = s.lums) (emission : t.emission = s.emission)
    (other : ∀ f, t.rowTx = .onRow f → f.owner ≠ .level) (free : t.rowTx = .ready → s.emission = none) :
    t.Flying := by
  refine ⟨h.moved (fun a => ?_) emission fun f onRow own => absurd own (other f onRow),
    fun ready => emission.trans (free ready)⟩
  unfold State.lum
  rw [lums]
  exact .refl _

theorem enterGap (h : s.FlightOk) : (enterGap s).Flying := row h rfl rfl nofun nofun

/-- In READY none is in flight. -/
theorem landed (h : s.Flying) (ready : s.rowTx = .ready) (a : Addr) : (s.lum a).shadow ≠ .inFlight := by
  intro flight
  obtain ⟨m, record, -⟩ := h.1.2.1 a flight
  rw [h.2 ready] at record
  cases record

end State.Flying

namespace State.FlightBefore

variable {s t : State}

theorem start (h : s.FlightBefore) : s.Flying := by
  obtain ⟨-, owners, flight⟩ := h
  refine ⟨flight, fun ready => ?_⟩
  obtain ⟨⟨-, -, emission, -, -⟩, -⟩ := owners.row_free (owner_of_ready ready)
  exact emission

theorem ofQuiet (h : s.FlightBefore) (f : Quiet s t) : t.FlightBefore :=
  ⟨h.1.ofQuiet f, h.2.1.ofQuiet f, h.2.2.flown (.ofQuiet f)⟩

end State.FlightBefore

/-- Scans, passes and events keep the level frame's meaning. -/
theorem flyingScanRule : ScanRule State.Flying State.Flying :=
  .ofBlind (fun _ _ _ h => h.same ⟨rfl, rfl, rfl⟩) (fun _ h => h.same (by simp))
    (fun s a h => h.flown (.recompute s a)) fun e s h => h.flown (.ofUpstream (noticeOf_frame e s))

namespace State.Flying

variable {s t : State}

/-- A level frame starts where none is in flight: exactly the covered entries take off (R31, R124). -/
theorem emit (h : s.Flying) (ready : s.rowTx = .ready) (unit : Byte) (head : Addr) {covered : List Addr}
    (nodup : covered.Nodup) : (emit unit head covered s).Flying := by
  have frame := RowMapFrame.foldl (startCovered_frame (s.lum head).output) covered
    { startRow (levelFrame s unit head) .level s with emission := some ⟨covered, (s.lum head).output⟩ }
  have lum := foldl_startCovered_lum (s.lum head).output covered nodup
    { startRow (levelFrame s unit head) .level s with emission := some ⟨covered, (s.lum head).output⟩ }
  change RowMapFrame _ (Machine.emit unit head covered s) at frame
  change ∀ b, (Machine.emit unit head covered s).lum b = if b ∈ covered then { s.lum b with
    shadow := .inFlight, sent := (s.lum head).output, sentValid := true, urgent := false } else s.lum b at lum
  have emission : (Machine.emit unit head covered s).emission = some ⟨covered, (s.lum head).output⟩ := by
    unfold RowMapFrame at frame
    rw [frame]
  have row : (Machine.emit unit head covered s).rowTx =
      (startRow (levelFrame s unit head) .level s).rowTx := by
    unfold RowMapFrame at frame
    rw [frame]
  refine ⟨⟨fun b unknown => ?_, fun b flight => ?_, fun m record => ?_⟩, fun still => ?_⟩
  · rw [lum] at unknown ⊢
    split at unknown
    · cases unknown
    · next other =>
      rw [if_neg other]
      exact h.1.1 b unknown
  · rw [lum] at flight ⊢
    split at flight
    · next member =>
      rw [if_pos member]
      exact ⟨_, emission, member, rfl⟩
    · exact absurd flight (h.landed ready b)
  · rw [emission] at record
    cases record
    refine ⟨nodup, fun f onRow _ => ?_⟩
    rw [row] at onRow
    cases onRow
    exact ⟨rfl, rfl⟩
  · rw [row] at still
    cases still

theorem arbitrate (s : State) (h : s.Flying) : (arbitrate s).Flying := by
  refine arbitrate_induction (fun _ k => k.same ⟨rfl, rfl, rfl⟩)
    (fun s unit head covered ready nodup _ k => k.emit ready unit head nodup) ?forward ?scan ?alignment ?verify s h
  case forward =>
    intro s t e q _ _ frame k
    have started : (startRow e.frame .forward { s with forward := { e with onRow := true } :: q }).Flying :=
      row k.1 rfl rfl (fun f onRow => by cases onRow; nofun) nofun
    exact started.flown (.ofAligned frame)
  case scan => exact fun _ _ _ _ _ k => row k.1 rfl rfl (fun f onRow => by cases onRow; nofun) nofun
  case alignment => exact fun _ _ _ _ _ _ k => row k.1 rfl rfl (fun f onRow => by cases onRow; nofun) nofun
  case verify => exact fun _ _ _ _ _ _ k => row k.1 rfl rfl (fun f onRow => by cases onRow; nofun) nofun

/-! ### Row power and restarts -/

theorem powerOn (straps : Fin 16) (above : Bool) (s : State) : (powerOn straps above s).Flying := by
  have blocks : (bootState straps above s).Flying := by
    refine ⟨.of_landed (fun a => ?_) (fun a _ => ?_) rfl, nofun⟩
    · rw [bootState_lum]
      nofun
    · rw [bootState_lum]
      rfl
  unfold Machine.powerOn
  rw [powerOnBlocks_eq]
  exact flyingScanRule.raise _ blocks

theorem recomputeAll_flown (s : State) : Flown s (recomputeAll s) := by
  refine .ofRowMap (by simp only [RowMapFrame, recomputeAll]) fun a => ?_
  simp only [recomputeAll, State.lum, Vector.getElem_ofFn]
  split <;> exact .of_same rfl rfl rfl

theorem warmRestart (s : State) : (warmRestart s).Flying := by
  have warm : (warmState s).Flying := by
    refine ⟨.of_landed (fun a => ?_) (fun a _ => ?_) rfl, fun _ => rfl⟩
    · rw [warmState_lum]
      nofun
    · rw [warmState_lum]
      rfl
  have blocks : (warmBlocks s).Flying := warmBlocks_eq s ▸ warm.flown (recomputeAll_flown _)
  unfold Machine.warmRestart
  dsimp only
  refine flyingScanRule.raise _ ?_
  split
  · exact flyingScanRule.resumeScan ((blocks.flown (.rowMapReturned _)).same ⟨rfl, rfl, rfl⟩)
  · exact blocks

/-- With row power gone no LUMINAIRE is in flight, and no other entry ever is (R34, R24). -/
theorem rowPowerLost (h : s.FlightBefore) : (rowPowerLost s).Flying := by
  obtain ⟨rowMap, -, flight⟩ := h
  have lost : (rowMapLost (rowPortLost { s with power := { s.power with present := false } })).Flying := by
    have frame := rowMapLost_frame (rowPortLost { s with power := { s.power with present := false } })
    have port : (rowPortLost { s with power := { s.power with present := false } }).RowMapOk :=
      rowMap.kept ⟨rfl, rfl, rfl⟩
    have entries := port.rowMapLost
    have unknown : ∀ a, ((rowMapLost (rowPortLost { s with
        power := { s.power with present := false } })).lum a).shadow = .unknown ∧
        ((rowMapLost (rowPortLost { s with
        power := { s.power with present := false } })).lum a).sentValid = false := by
      intro a
      rw [rowMapLost_lum]
      split
      · exact ⟨rfl, rfl⟩
      · next other =>
        obtain ⟨shadow, invalid, -⟩ := (port.entry a).2.2.2 (by simpa using other)
        exact ⟨shadow, invalid⟩
    have emission : (rowMapLost (rowPortLost { s with
        power := { s.power with present := false } })).emission = none := by
      unfold RowMapFrame at frame
      rw [frame]
      rfl
    exact ⟨.of_landed (fun a => by rw [(unknown a).1]; nofun) (fun a _ => (unknown a).2) emission, fun _ => emission⟩
  have suspended : (suspendScan (rowMapLost
      (rowPortLost { s with power := { s.power with present := false } }))).Flying := lost.same ⟨rfl, rfl, rfl⟩
  have flushed := suspended.flown (.ofRelay (flushForward_frame _))
  exact flyingScanRule.raise _ (flushed.same ⟨rfl, rfl, rfl⟩)

theorem rowPowerReturned (h : s.FlightOk) : (rowPowerReturned s).Flying := by
  have present : ({ s with power := { s.power with present := true } } : State).FlightOk :=
    h.flown (.same ⟨rfl, rfl, rfl⟩)
  have returned := (enterGap present).flown (.rowMapReturned _)
  exact flyingScanRule.raise _ (flyingScanRule.resumeScan (returned.same ⟨rfl, rfl, rfl⟩))

/-! ### The end of a level frame -/

/-- Every entry in flight is covered by the record, and lands (R125, R32). -/
theorem finishLevel (h : s.FlightBefore) {f : RowFrame} (onRow : s.rowTx = .onRow f) (own : f.owner = .level) :
    (finishLevel s).Flying := by
  obtain ⟨rowMap, owners, unknown, flight, record⟩ := h
  obtain ⟨-, -, -, -, -, -, emitted, -⟩ := owners
  obtain ⟨m, emission⟩ := Option.isSome_iff_exists.mp
    (emitted.mpr ((owner_of_onRow onRow).trans (congrArg some own)))
  obtain ⟨nodup, -⟩ := record m emission
  have lands : ∀ b, ((m.covered.foldl (completeCovered m.level) s).lum b).shadow ≠ .inFlight ∧
      (((m.covered.foldl (completeCovered m.level) s).lum b).shadow = .unknown →
        ((m.covered.foldl (completeCovered m.level) s).lum b).sentValid = false) := by
    intro b
    rw [foldl_completeCovered_lum m.level m.covered nodup s]
    by_cases was : (s.lum b).shadow = .inFlight
    · obtain ⟨m', same, covers, -⟩ := flight b was
      rw [emission] at same
      cases same
      have luminaire := (rowMap.entry b).luminaire (by rw [was]; nofun)
      rw [if_pos covers, completeCovered_lum, if_pos ⟨rfl, luminaire, was⟩]
      split <;> exact ⟨nofun, nofun⟩
    · rw [completeCovered_lum, if_neg (c := b = b ∧ _) fun all => was all.2.2, ite_self]
      exact ⟨was, unknown b⟩
  unfold Machine.finishLevel
  rw [emission]
  exact enterGap (.of_landed (fun b => (lands b).1) (fun b => (lands b).2) rfl)

theorem channelWrite (h : s.Flying) (c : ChannelId) (v : ChannelConfig) : (applyChannelWrite c v s).Flying := by
  unfold applyChannelWrite
  dsimp only
  split
  · exact h.same ⟨rfl, rfl, rfl⟩
  · refine flyingScanRule.reviseScan ?_
    unfold disregardQuery
    split <;> exact h.same ⟨rfl, rfl, rfl⟩

theorem closeVerify (h : s.Flying) (o : WindowOutcome) : (verifyOutcome o s).Flying :=
  flyingScanRule.verifyOutcome
    (fun s a l same k => k.flown (.put s a (by
      obtain ⟨kept, -⟩ := same
      rw [kept]
      exact .of_same rfl rfl rfl)))
    (fun s a _ _ k => k.flown (.reportMismatch a s)) o (h.same ⟨rfl, rfl, rfl⟩) fun _ => h

end State.Flying

/-- Every command keeps the level frame's meaning, where the row map's rule and the row's records hold. -/
theorem flyingRule : StepRule State.FlightBefore State.Flying where
  start _ h := h.start
  quietBefore h := h.ofQuiet
  quiet h f := h.flown (.ofQuiet f)
  countBefore _ _ _ h := ⟨h.1.kept ⟨rfl, rfl, rfl⟩, h.2.1.same ⟨rfl, rfl, rfl, rfl, rfl, rfl, rfl, rfl⟩,
    h.2.2.flown (.same ⟨rfl, rfl, rfl⟩)⟩
  count _ _ _ h := h.same ⟨rfl, rfl, rfl⟩
  powerOn straps above s _ := .powerOn straps above s
  warmRestart s _ := .warmRestart s
  rowPowerLost _ h := .rowPowerLost h
  rowPowerReturned _ _ h := .rowPowerReturned h.2.2
  startHead s h := by
    unfold startHead
    split
    · exact h.start
    · exact h.start.same ⟨rfl, rfl, rfl⟩
  loseHead _ h := h.start.same ⟨rfl, rfl, rfl⟩
  finishSending _ _ h := h.start.same ⟨rfl, rfl, rfl⟩
  absorb level fade s a _ h := h.flown (.absorb level fade s a)
  forwardUntagged f s h := h.flown (.ofRelay (forwardUntagged_frame f s))
  defer f s _ h := h.start.flown (.ofRelay (defer_frame f s))
  rowWrite a r s _ h := h.start.flown (.rowWrite a r s)
  zoneWrite z c s _ h := h.start.flown (.zoneWrite z c s)
  channelWrite c v _ _ h := h.start.channelWrite c v
  groupWrite _ _ _ h := h.start.same ⟨rfl, rfl, rfl⟩
  routeWrite _ _ _ _ h := h.start.same ⟨rfl, rfl, rfl⟩
  settingsWrite k t _ _ h := flyingScanRule.applySettingsWrite k t (fun _ _ => h.start.same ⟨rfl, rfl, rfl⟩)
    (h.start.same ⟨rfl, rfl, rfl⟩)
  loadRow _ _ _ _ h := h.start.same ⟨rfl, rfl, rfl⟩
  changeMode change s z _ _ h := h.flown (.changeMode change z s)
  trigger urgent _ h := flyingScanRule.trigger urgent h.start
  takeTick _ h := flyingScanRule.takeTick h.start
  raise e _ h := flyingScanRule.raise e h.start
  arbitrate := State.Flying.arbitrate
  ready s gap h := by
    obtain ⟨⟨-, -, emission, -, -⟩, -⟩ := h.2.1.row_free (owner_eq_none.mpr (by rw [gap]; nofun))
    exact .row h.2.2 rfl rfl nofun fun _ => emission
  leaveReady _ _ h := .row h.2.2 rfl rfl nofun nofun
  finishLevel _ _ onRow own h := .finishLevel h onRow own
  popForward _ _ _ _ _ h := .row h.2.2 rfl rfl nofun nofun
  closeDeferred s _ e _ o _ _ _ h :=
    State.Flying.flown (s := enterGap (popForward s)) (.row h.2.2 rfl rfl nofun nofun)
      (.ofUpstream (deferredOutcome_frame e o _))
  closeScan s _ c _ _ _ h :=
    flyingScanRule.scanOutcome_of_blind (fun _ _ _ k => k.same ⟨rfl, rfl, rfl⟩) c _
      (State.Flying.same (s := enterGap s) (.enterGap h.2.2) ⟨rfl, rfl, rfl⟩) (.enterGap h.2.2)
  closeVerify _ _ o _ _ h := (State.Flying.enterGap h.2.2).closeVerify o
  closeAlignment s _ o _ _ h := (State.Flying.enterGap h.2.2).flown (.alignOutcome o _)
  expire t s h := h.start.flown (.ofRelay (expire_frame t s))
  saturate _ h := h.start.same (by simp [saturateStamps])

/-- Settles O7: every command keeps both, by its parts. -/
theorem stepKeepsRowMap : Obligations.StepKeepsRowMap := by
  refine ⟨fun s t => rowMapRule.step fun _ _ h => h.kept ⟨rfl, rfl, rfl⟩, fun s t before next => ?_⟩
  refine (flyingRule.step (fun _ _ h => ?_) before next).1
  exact ⟨h.1.kept ⟨rfl, rfl, rfl⟩, h.2.1.same ⟨rfl, rfl, rfl, rfl, rfl, rfl, rfl, rfl⟩,
    h.2.2.flown (.same ⟨rfl, rfl, rfl⟩)⟩

end Sys2Proof.Machine

namespace Sys2Proof.Machine

/-! ## Reset (O4) -/

theorem bootState_reset : bootState 0 false State.reset = { State.reset with upstream := [] } := by
  have zones : restartZones defaultTables = Vector.replicate 16 .initial := by
    ext z below
    simp [restartZones, restartZone, defaultTables, ZoneStatus.initial]
  exact congrArg (fun v => { State.reset with zones := v, upstream := [] }) zones

/-- Power-on with an empty store, the straps at 0 and no row supply is the reset state. -/
theorem powerOn_reset : powerOn 0 false State.reset = State.reset := by
  rw [powerOn_eq, bootState_reset]
  rfl

/-- Settles O4: power-on leaves every invariant, and the reset state is what it leaves. -/
theorem resetIsTheSafePowerOnState : Obligations.ResetIsTheSafePowerOnState := by
  refine ⟨congrArg Host.Outcome.next powerOn_reset, ?_⟩
  rw [← powerOn_reset]
  exact ⟨.powerOn .., (State.Flying.powerOn ..).1, .powerOn .., .powerOn .., .powerOn ..,
    upstreamOk_iff.mpr (State.Ordered.powerOn ..).2, .powerOn .., .powerOn ..⟩

/-! ## Time (O2) -/

theorem passTime_passTime (m n : Nat) (s : State) : passTime m (passTime n s) = passTime (n + m) s := by
  have clock : s.clock + BitVec.ofNat 32 ((s.subMs + n) / 1000) +
      BitVec.ofNat 32 (((s.subMs + n) % 1000 + m) / 1000) =
      s.clock + BitVec.ofNat 32 ((s.subMs + (n + m)) / 1000) := by
    rw [BitVec.add_assoc, ← BitVec.ofNat_add]
    congr 2
    omega
  have part : ((s.subMs + n) % 1000 + m) % 1000 = (s.subMs + (n + m)) % 1000 := by omega
  unfold passTime
  dsimp only
  rw [clock, part, Nat.add_assoc]

theorem interval_le (x : Stamp) (now : Clock) : x.interval now ≤ 2147483648 := by
  unfold Stamp.interval
  split
  · exact Nat.le_refl _
  · exact Nat.min_le_right _ _

theorem interval_of_saturated {x : Stamp} (saturated : x.saturated = true) (now : Clock) :
    x.interval now = 2147483648 := if_pos saturated

theorem interval_of_running {x : Stamp} (running : x.saturated = false) (now : Clock) :
    x.interval now = min (now - x.time).toNat 2147483648 := by
  unfold Stamp.interval
  rw [running]
  rfl

/-- The saturation event marks a time exactly when 2^31 ms have passed since (R1). -/
theorem saturate_eq (x : Stamp) (now : Clock) :
    x.saturate now = ⟨x.time, decide (2147483648 ≤ x.interval now)⟩ := rfl

theorem saturate_of_running {x : Stamp} {now : Clock} (running : x.interval now < 2147483648) :
    x.saturate now = x := by
  have unmarked : x.saturated = false := by
    refine Bool.eq_false_iff.mpr fun marked => ?_
    rw [interval_of_saturated marked] at running
    omega
  rw [saturate_eq, decide_eq_false (by omega), ← unmarked]

/-- Settles O2: the step without a command, the passing of time, and the saturation of intervals. -/
theorem timePassesOnItsOwn : Obligations.TimePassesOnItsOwn := by
  refine ⟨fun s idle => ?idle, fun n s => ⟨rfl, fun m => passTime_passTime m n s⟩, fun x now => ?interval,
    fun after s => ?saturation⟩
  case idle =>
    refine ⟨passTime 1000 s, by simp only [step, idle], rfl, fun within => ⟨?_, ?_⟩⟩
    · show s.clock + BitVec.ofNat 32 ((s.subMs + 1000) / 1000) = s.clock + 1
      rw [show (s.subMs + 1000) / 1000 = 1 by omega]
      rfl
    · show (s.subMs + 1000) % 1000 = s.subMs
      omega
  case interval =>
    refine ⟨interval_le x now, fun running passed => ?_, fun marked => interval_of_saturated marked now, rfl,
      fun running below => ?_, fun passed later => ?_, saturate_of_running⟩
    · rw [interval_of_running running]
      omega
    · rw [interval_of_running running]
      omega
    · exact interval_of_saturated (decide_eq_true passed) later
  case saturation =>
    refine ⟨_, rfl, ?_, fun c => ?_, fun z => ?_⟩
    · simp only [saturateStamps]
    · simp [saturateStamps, State.channel, ChannelStatus.saturate]
    · simp [saturateStamps, State.zone, ZoneStatus.saturate]

/-! ## Warm restart (O6) -/

/-- The moment of a scheduled warm restart, in words (R169). -/
theorem restartDue_iff (v : State) :
    restartDue v = true ↔ v.restart = .due ∨ (v.restart = .afterAnswer ∧
      ∃ f since, v.trunkTx = .answering f since ∧ since + f.time ≤ v.portTime) := by
  unfold restartDue
  split
  · next due => exact ⟨fun _ => .inl due, fun _ => rfl⟩
  · next f since waits answering =>
    rw [waits, answering, decide_eq_true_iff]
    refine ⟨fun ended => .inr ⟨rfl, f, since, rfl, ended⟩, fun ended => ?_⟩
    obtain no | ⟨-, g, t, same, ended⟩ := ended
    · cases no
    · cases same
      exact ended
  · next notDue notEnded =>
    refine ⟨nofun, fun either => ?_⟩
    obtain due | ⟨waits, f, since, answering, -⟩ := either
    · exact absurd due notDue
    · exact absurd answering (notEnded f since waits)

/-- An entry as a restart leaves it: the bases kept, nothing sent, and PENDING or UNKNOWN. -/
def Lum.Restarted (l : Lum) (shadow : Shadow) (m : Lum) : Prop :=
  m.base = l.base ∧ m.baseFade = l.baseFade ∧ m.sent = l.sent ∧ m.sentValid = false ∧ m.urgent = false ∧
  m.aligned = false ∧ m.health = .good ∧ m.mismatches = 0 ∧ m.misses = 0 ∧ m.shadow = shadow

/-- A recomputation leaves a restarted entry restarted. -/
theorem Lum.Restarted.recompute {l : Lum} {shadow : Shadow} {s : State} {a : Addr}
    (h : l.Restarted shadow (s.lum a)) (waits : shadow = .pending ∨ shadow = .unknown) :
    l.Restarted shadow ((Machine.recompute s a).lum a) ∧ (Machine.recompute s a).pendingList = s.pendingList := by
  obtain ⟨base, baseFade, sent, invalid, calm, aligned, health, mismatches, misses, state⟩ := h
  unfold Machine.recompute outputUpdate
  split
  · exact ⟨⟨base, baseFade, sent, invalid, calm, aligned, health, mismatches, misses, state⟩, rfl⟩
  · unfold applyUpdate
    dsimp only
    obtain rfl | rfl := waits
    · rw [state]
      dsimp only
      rw [if_neg (by simp [invalid])]
      refine ⟨?_, rfl⟩
      rw [lum_setLum_self]
      unfold Lum.settle
      dsimp only
      rw [if_neg (by simp), if_neg (by simp [calm])]
      exact ⟨base, baseFade, sent, invalid, calm, aligned, health, mismatches, misses, rfl⟩
    · rw [state]
      refine ⟨?_, rfl⟩
      rw [lum_setLum_self]
      exact ⟨base, baseFade, sent, invalid, calm, aligned, health, mismatches, misses, rfl⟩

/-- The shadow state of an entry after a warm restart (R41). -/
def restartShadow (s : State) (a : Addr) : Shadow :=
  if s.power.present = true ∧ s.isLum a = true then .pending else .unknown

/-- Every entry is restarted, and the pending list is as a restart makes it (R41). -/
def State.RestartedFrom (s t : State) : Prop :=
  (∀ a, (s.lum a).Restarted (restartShadow s a) (t.lum a)) ∧
  t.pendingList = if s.power.present then s.luminaires else []

theorem State.RestartedFrom.recompute {s t : State} (h : s.RestartedFrom t) (a : Addr) :
    s.RestartedFrom (Machine.recompute t a) := by
  have waits : restartShadow s a = .pending ∨ restartShadow s a = .unknown := by
    unfold restartShadow
    split
    · exact .inl rfl
    · exact .inr rfl
  obtain ⟨own, list⟩ := (h.1 a).recompute waits
  refine ⟨fun b => ?_, list.trans h.2⟩
  by_cases e : b = a
  · rw [e]
    exact own
  · rw [recompute_other t a b e]
    exact h.1 b

theorem State.RestartedFrom.same {s t u : State} (h : s.RestartedFrom t)
    (read : u.lums = t.lums ∧ u.pendingList = t.pendingList) : s.RestartedFrom u := by
  obtain ⟨lums, list⟩ := read
  refine ⟨fun a => ?_, list.trans h.2⟩
  rw [show u.lum a = t.lum a by unfold State.lum; rw [lums]]
  exact h.1 a

/-- Scans, passes and events leave restarted entries restarted. -/
theorem restartedScanRule (s : State) : ScanRule s.RestartedFrom s.RestartedFrom :=
  .ofBlind (fun _ _ _ h => h.same ⟨rfl, rfl⟩) (fun _ h => h.same (by simp))
    (fun _ a h => h.recompute a) fun e t h => by
      have frame := noticeOf_frame e t
      unfold UpstreamFrame at frame
      exact h.same (by rw [frame]; exact ⟨rfl, rfl⟩)

/-- Every block at its warm-restart value, before a scan is triggered, in the terms of the statement (R41, R170). -/
def restartBlocks (s v : State) : State :=
  let present := s.power.present
  let base := fun a : Addr => (s.lum a).base
  { v with
    clock := 0, subMs := 0
    lums := Vector.ofFn fun a : Addr =>
      { s.lum a with
        output := if s.isLum a = true then
            (match (s.row a).zone with
             | some z => if (s.zoneConfig z).inUse = false then base a
                 else if base a = 0 then 0 else max (s.row a).pmin (base a)
             | none => base a)
          else (s.lum a).output
        shadow := if present = true ∧ s.isLum a = true then .pending else .unknown
        emissionFade := (s.lum a).baseFade, sentValid := false, urgent := false
        aligned := false, health := .good, mismatches := 0, misses := 0 }
    pendingList := if present then s.luminaires else []
    zones := Vector.ofFn fun z : ZoneId =>
      ⟨if (s.zoneConfig z).inUse then .track else .unbound, 1000, 0, .zero, none, false, false⟩
    channels := Vector.replicate 8 ⟨0, .unseen, 0, 0, .zero⟩
    scan := ⟨if present then .idle else .suspended, 0, 7, none, none, false, false, .zero,
      false, false, false, false, false⟩
    rowTx := if present then .gap else .powerless
    rowActivity := v.portTime
    starvation := 0, lowerTurn := false, emission := none
    forward := [], lastTag := 15, tagsInUse := []
    upstream := [], noticesLost := false, lostSinceStart := false
    trunkTx := .idle, answer := none
    trunkIdle := match v.trunkTx with
      | .answering _ _ => some v.portTime
      | _ => v.trunkIdle
    counters := ⟨0, 0, 0, 0, 0, 0, 0⟩
    verify := ⟨0, 0, .zero, none, 0, none, none⟩
    store := ⟨s.store.image, none, .none⟩, snapshot := none, restart := .none }

/-- With R = 1000 a bound zone's member has its base level, or its minimum if that is higher (R77, R63). -/
theorem warmState_outputOf (n : Nat) (s : State) (a : Addr) :
    (warmState (passTime n s)).outputOf a =
      (match (s.row a).zone with
       | some z => if (s.zoneConfig z).inUse = false then (s.lum a).base
           else if (s.lum a).base = 0 then 0 else max (s.row a).pmin (s.lum a).base
       | none => (s.lum a).base) := by
  have zone : ∀ z, (warmState (passTime n s)).zone z = restartZone (s.zoneConfig z) := fun z => by
    simp [State.zone, warmState, restartZones, State.zoneConfig]
  have full : (1000 * (s.lum a).base + 999) / 1000 = (s.lum a).base := by omega
  unfold State.outputOf State.outputFor
  rw [warmState_lum, show (warmState (passTime n s)).row a = s.row a from rfl]
  split
  · next unzoned =>
    rw [unzoned]
    rfl
  · next z zoned =>
    rw [zoned, zone]
    cases inUse : (s.zoneConfig z).inUse
    · simp [restartZone, inUse, Lum.warm]
    · simp [restartZone, inUse, boundOutput, ZoneStatus.initial, Lum.warm, Nat.mul_comm, full]

theorem warmBlocks_lum (n : Nat) (s : State) (a : Addr) :
    (warmBlocks (passTime n s)).lum a = { (s.lum a).warm with
      output := if s.isLum a = true then
          (match (s.row a).zone with
           | some z => if (s.zoneConfig z).inUse = false then (s.lum a).base
               else if (s.lum a).base = 0 then 0 else max (s.row a).pmin (s.lum a).base
           | none => (s.lum a).base)
        else (s.lum a).output } := by
  rw [← warmState_outputOf n s a, warmBlocks_eq]
  simp only [recomputeAll, State.lum, Vector.getElem_ofFn]
  split
  · next luminaire =>
    rw [if_pos (show s.isLum a = true from luminaire)]
    exact congrArg (fun l => { l with output := (warmState (passTime n s)).outputOf a }) (warmState_lum _ a)
  · next other =>
    rw [if_neg (show ¬ s.isLum a = true from other)]
    exact warmState_lum _ a

theorem blocks_of_absent {s : State} (absent : s.power.present = false) (n : Nat) :
    warmBlocks (passTime n s) = restartBlocks s (passTime n s) := by
  have lums : (warmBlocks (passTime n s)).lums = (restartBlocks s (passTime n s)).lums := by
    refine lums_ext fun a => ?_
    rw [warmBlocks_lum]
    simp [State.lum, restartBlocks, absent, Lum.warm]
  have kept : warmBlocks (passTime n s) = { warmState (passTime n s) with
      lums := (warmBlocks (passTime n s)).lums } := by
    simp only [warmBlocks_eq, recomputeAll]
  rw [kept, lums]
  unfold restartBlocks warmState
  dsimp only
  rw [absent, passTime_power, absent]
  rfl

theorem blocks_of_present {s : State} (present : s.power.present = true) (n : Nat) :
    endScan .idle (rowMapReturned (warmBlocks (passTime n s))) = restartBlocks s (passTime n s) := by
  have lums : (rowMapReturned (warmBlocks (passTime n s))).lums = (restartBlocks s (passTime n s)).lums := by
    refine lums_ext fun a => ?_
    rw [rowMapReturned_lum, warmBlocks_lum, show (warmBlocks (passTime n s)).isLum a = s.isLum a by
      simp only [warmBlocks_eq, recomputeAll]; rfl]
    by_cases luminaire : s.isLum a = true
    · simp [State.lum, restartBlocks, present, luminaire, Lum.warm, Lum.return]
    · simp [State.lum, restartBlocks, luminaire, Lum.warm]
  have kept : rowMapReturned (warmBlocks (passTime n s)) = { warmState (passTime n s) with
      lums := (rowMapReturned (warmBlocks (passTime n s))).lums
      pendingList := s.luminaires } := by
    simp only [warmBlocks_eq, recomputeAll, rowMapReturned, State.mapLuminaires]
    rfl
  rw [kept, lums]
  unfold restartBlocks warmState endScan
  dsimp only
  rw [present, passTime_power, present]
  rfl

/-- A warm restart is the restart values of every block, then a scan's trigger with row power, then RESTARTED (R170). -/
theorem warmRestart_eq (n : Nat) (s : State) :
    warmRestart (passTime n s) = raise (.restarted .warm)
      (if s.power.present then trigger false (restartBlocks s (passTime n s))
       else restartBlocks s (passTime n s)) := by
  have power : (warmBlocks (passTime n s)).power.present = s.power.present := by
    simp only [warmBlocks_eq, recomputeAll, warmState, passTime_power]
  unfold warmRestart
  dsimp only
  rw [power]
  by_cases present : s.power.present = true
  · rw [if_pos present, if_pos present, resumeScan, blocks_of_present present]
  · rw [if_neg present, if_neg present, blocks_of_absent (by simpa using present)]

theorem restartBlocks_restarted (n : Nat) (s : State) : s.RestartedFrom (restartBlocks s (passTime n s)) := by
  refine ⟨fun a => ?_, rfl⟩
  simp [State.lum, restartBlocks, Lum.Restarted, restartShadow]

/-- What RESTARTED and a scan at the restart leave of every block (R170). -/
theorem warmRestart_frame (n : Nat) (s : State) :
    EventFrame (restartBlocks s (passTime n s)) (warmRestart (passTime n s)) := by
  rw [warmRestart_eq]
  refine EventFrame.trans ?_ (raise_frame _ _)
  split
  · exact trigger_frame _ _
  · exact .refl _

theorem warmRestart_restarted (n : Nat) (s : State) : s.RestartedFrom (warmRestart (passTime n s)) := by
  have blocks := restartBlocks_restarted n s
  rw [warmRestart_eq]
  refine (restartedScanRule s).raise _ ?_
  split
  · exact (restartedScanRule s).trigger _ blocks
  · exact blocks

/-- Settles O6: the restart values of every block, and what the scan and the notice after them can touch. -/
theorem warmRestartKeepsTablesAndBases : Obligations.WarmRestartKeepsTablesAndBases := by
  intro n s v due
  refine ⟨fun early => ?_, fun now => ⟨warmRestart v, ?_, warmRestart_eq n s, ?_⟩⟩
  · show Host.Outcome.next (restartIfDue v) = .next v
    rw [restartIfDue, if_neg fun is => early ((restartDue_iff v).mp is)]
  · show Host.Outcome.next (restartIfDue v) = .next _
    rw [restartIfDue, if_pos ((restartDue_iff v).mpr now)]
  · obtain ⟨lums, list⟩ := warmRestart_restarted n s
    have frame := warmRestart_frame n s
    change EventFrame _ (warmRestart v) at frame
    have power : (warmRestart v).power = s.power := by
      unfold EventFrame at frame
      rw [frame]
      rfl
    refine ⟨?tables, ?segment, power, ?clock, fun a => ?entries, ?_, ?_, ?_, ?_, ?_, ?_, ?_, ?_, ?_, ?_, ?_,
      ?_, ?_, ?_, fun absent => ?absent, fun present => ?present⟩
    case entries =>
      obtain ⟨base, baseFade, sent, invalid, calm, aligned, health, mismatches, misses, -⟩ := lums a
      exact ⟨base, baseFade, sent, invalid, calm, aligned, health, mismatches, misses⟩
    case absent =>
      have suspended : (restartBlocks s v).scan.state = .suspended := by
        simp only [restartBlocks, absent]
        rfl
      have quiet : warmRestart v = noticeOf (.restarted .warm) (restartBlocks s v) := by
        rw [warmRestart_eq, absent]
        exact raise_of_suspended suspended _
      refine ⟨?_, fun a => ?_, ?_, fun z => ?_, ?_⟩
      · rw [list, absent]
        rfl
      · obtain ⟨-, -, -, -, -, -, -, -, -, shadow⟩ := lums a
        rw [shadow, restartShadow, absent]
        rfl
      · rw [quiet, noticeOf_of_empty rfl]
        exact suspended
      · rw [quiet, noticeOf_of_empty rfl]
        simp [State.zone, restartBlocks]
      · rw [quiet, noticeOf_of_empty rfl]
        rfl
    case present =>
      refine ⟨by rw [list, present]; rfl, fun suspended => ?_, fun a => ?_⟩
      · have off := (State.ModesOk.warmRestart v).2.1.mp suspended
        rw [power, present] at off
        cases off
      · obtain ⟨-, -, -, -, -, -, -, -, -, shadow⟩ := lums a
        rw [shadow, restartShadow, present]
        simp
    case tables | segment | clock =>
      unfold EventFrame at frame
      rw [frame]
      rfl
    · intro c
      unfold EventFrame at frame
      rw [frame]
      simp [State.channel, restartBlocks]
    all_goals
      unfold EventFrame at frame
      rw [frame]
      rfl

end Sys2Proof.Machine

namespace Sys2Proof.Machine

/-! ## The trunk port (O19 to O22) -/

/-- Settles O19: the counter of each verdict, and the command of each. -/
theorem undeliveredFramesOnlyCount : Obligations.UndeliveredFramesOnlyCount := by
  refine ⟨fun after rx s => ⟨rfl, rfl, congrArg Host.Outcome.next ?counted⟩,
    fun own after rx => ⟨?ignored, ?errors, ?discarded⟩⟩
  case counted =>
    cases verdict : trunkVerdict s.segmentByte rx with
    | ignored => simp [countVerdict]
    | framing => rfl
    | check => rfl
    | discarded => simp [countVerdict]
    | delivered f => simp [countVerdict]
  case ignored =>
    intro verdict
    rw [trunkCommand, verdict]
  case errors =>
    rintro (verdict | verdict) <;> rw [trunkCommand, verdict]
  case discarded =>
    intro verdict
    rw [trunkCommand, verdict]

/-! ### Answers -/

theorem answerDue_iff (s : State) (a : Answer) :
    answerDue s a = true ↔ 4000 ≤ s.portTime - a.requestEnd ∧ s.trunkIdle ≠ none := by
  rw [answerDue, Bool.and_eq_true, decide_eq_true_iff, Option.isSome_iff_ne_none]
  rfl

theorem lineActivity_of_none {s : State} (none : s.answer = none) :
    lineActivity s = { s with trunkIdle := .none } := by
  unfold lineActivity
  rw [none]

theorem lineActivity_of_some {s : State} {a : Answer} (some : s.answer = some a) :
    lineActivity s = answerOver (countArbitration { s with trunkIdle := none, answer := none }) := by
  unfold lineActivity
  rw [some]

/-- Settles O20: an answer's start, and what line activity and a frame's end make of one that waits. -/
theorem answersAndActivity : Obligations.AnswersAndActivity := by
  refine ⟨fun after s => congrArg Host.Outcome.next ?start, fun after s => ⟨fun none => ?_, fun a some => ?_⟩⟩
  case start =>
    unfold startAnswer
    split
    · next a some =>
      rw [some]
      exact ite_congr_iff (answerDue_iff _ a) rfl rfl
    · next none => rw [none]
  · have activity := lineActivity_of_none none
    refine ⟨congrArg Host.Outcome.next activity, ?_⟩
    rw [trunkFrameEnd, frameHeard, activity]
  · have activity := lineActivity_of_some some
    refine ⟨congrArg Host.Outcome.next activity, ?_⟩
    rw [trunkFrameEnd, frameHeard, activity]
    rfl

/-! ### The queued frame -/

/-- The queued frame that an entry is sent as, byte by byte (R18). -/
def upFrameBytes (s : State) (e : UpEntry) : Frame :=
  match e.item with
  | .deferred d => ⟨.deferredReply, s.segmentByte, d.unit,
      [byte d.tag.val, byte (outcomeCode d.outcome), byte (if d.noisy then 4 else 0)] ++ d.data⟩
  | .notice n => ⟨.notice, s.segmentByte, 126,
      [byte n.event.kind.val, byte (if s.noticesLost then 8 else 0), byte n.event.subject] ++
        bytes32 n.time.toNat ++ n.event.data⟩

theorem upFrame_eq (s : State) (e : UpEntry) : upFrame s e = upFrameBytes s e := by
  have noisy : ∀ b, flagsByte false false b false = byte (if b then 4 else 0) := by decide
  have lost : ∀ b, flagsByte false false false b = byte (if b then 8 else 0) := by decide
  unfold upFrame upFrameBytes deferredPayload noticePayload
  cases e.item with
  | deferred d => exact congrArg (fun x => Frame.mk _ _ _ ([_, _, x] ++ _)) (noisy _)
  | notice n => exact congrArg (fun x => Frame.mk _ _ _ ([_, x, _] ++ _ ++ _)) (lost _)

/-- The head qualifies by its class and the part's segment number (R13). -/
theorem headQualifies_iff {s : State} {e : UpEntry} {q : List UpEntry} {since : Nat} (upstream : s.upstream = e :: q)
    (idle : s.trunkIdle = some since) (free : s.trunkTx = .idle) :
    headQualifies s = true ↔
      24000 + 3000 * (if e.isNotice then 2 else 1) + 250 * s.segment.val ≤ s.portTime - since := by
  unfold headQualifies
  rw [upstream, idle, free]
  exact (and_iff_right rfl |> Bool.and_eq_true_iff.trans).trans decide_eq_true_iff

/-- Settles O21: the head's start where it qualifies, and the codes of outcomes and events. -/
theorem queuedFrameStartsWhenQualified : Obligations.QueuedFrameStartsWhenQualified := by
  refine ⟨fun after s => ⟨fun stays => congrArg Host.Outcome.next ?stays,
    fun e q since upstream idle free => congrArg Host.Outcome.next ?starts⟩, ⟨rfl, rfl, rfl, rfl⟩,
    fun c z a unit x y => ?codes⟩
  case stays =>
    generalize passTime after s = v at stays ⊢
    refine if_neg ?_
    unfold headQualifies
    split
    · next e q since upstream idle =>
      obtain empty | active | busy := stays
      · rw [upstream] at empty
        cases empty
      · rw [idle] at active
        cases active
      · simp [busy]
    · nofun
  case starts =>
    refine ite_congr_iff (headQualifies_iff upstream idle free) ?_ rfl
    unfold startHead
    rw [upstream]
    dsimp only
    rw [upFrame_eq]
    rfl
  case codes =>
    cases unit <;> and_intros <;> rfl

/-! ### The end of a transmission -/

theorem time_eq (f : Frame) : f.time = (3 + 8 * (4 + f.payload.length)) * 208 := rfl

/-- A tag that a sent frame releases is that of a DEFERRED REPLY being transmitted (R135). -/
theorem contains_sentTags (q : List UpEntry) (t : Tag) :
    (sentTags q).contains t = q.any fun e =>
      match e.item with
      | .deferred d => e.sending && !e.merged && d.tag == t
      | .notice _ => false := by
  unfold sentTags
  induction q with
  | nil => rfl
  | cons e q ih =>
    obtain ⟨item, sending, merged⟩ := e
    rw [List.any_cons, ← ih]
    cases item with
    | notice n => simp
    | deferred d =>
      cases sending <;> cases merged
      case true.false =>
        exact congrArg (· || _) (BEq.comm (a := t) (b := d.tag))
      all_goals simp

/-- The end of a queued frame, field by field (R17, R18, R135). -/
theorem finishSending_eq (flag : Bool) (s : State) : finishSending flag s =
    { s with
      upstream := (s.upstream.filter fun e => !e.sending || e.merged).map UpEntry.unmark
      tagsInUse := s.tagsInUse.filter fun t => !(s.upstream.any fun e =>
        match e.item with
        | .deferred d => e.sending && !e.merged && d.tag == t
        | .notice _ => false)
      noticesLost := s.noticesLost && (!flag || s.lostSinceStart)
      trunkTx := .idle
      trunkIdle := some s.portTime } := by
  have kept : (s.noticesLost && !(flag && !s.lostSinceStart)) =
      (s.noticesLost && (!flag || s.lostSinceStart)) := by
    rw [Bool.not_and, Bool.not_not]
  simp only [finishSending, settleSent, contains_sentTags, kept]

/-- The half-cells differ somewhere (R14). -/
theorem arbitrationMismatch_iff (driven sampled : List Bool) :
    arbitrationMismatch driven sampled = true ↔
      ∃ i : Nat, (driven[i]? = some true ∧ sampled[i]? = some false) ∨
        (driven[i]? = some false ∧ sampled[i]? = some true) := by
  unfold arbitrationMismatch
  rw [List.any_eq_true]
  constructor
  · rintro ⟨⟨d, m⟩, member, differ⟩
    obtain ⟨i, pair⟩ := List.mem_iff_getElem?.mp member
    obtain ⟨left, right⟩ := List.getElem?_zip_eq_some.mp pair
    refine ⟨i, ?_⟩
    rw [left, right]
    cases d <;> cases m <;> simp at differ ⊢
  · rintro ⟨i, ⟨left, right⟩ | ⟨left, right⟩⟩
    · exact ⟨(true, false), List.mem_iff_getElem?.mpr ⟨i, List.getElem?_zip_eq_some.mpr ⟨left, right⟩⟩, rfl⟩
    · exact ⟨(false, true), List.mem_iff_getElem?.mpr ⟨i, List.getElem?_zip_eq_some.mpr ⟨left, right⟩⟩, rfl⟩

theorem frameSent_of_sending {s : State} {f : Frame} {since : Nat} {flag : Bool}
    (sending : s.trunkTx = .sending f since flag) :
    frameSent s = if since + f.time ≤ s.portTime then finishSending flag s else s := by
  unfold frameSent
  rw [sending]

theorem frameSent_of_answering {s : State} {f : Frame} {since : Nat} (answering : s.trunkTx = .answering f since) :
    frameSent s = if since + f.time ≤ s.portTime then
      answerOver { s with trunkTx := .idle, trunkIdle := some s.portTime } else s := by
  unfold frameSent
  rw [answering]

/-- Settles O22: the end of an answer and of a queued frame, a loss, and the comparison that tells it. -/
theorem transmissionEnds : Obligations.TransmissionEnds := by
  refine ⟨fun after s => ⟨fun idle => congrArg Host.Outcome.next ?_,
    fun f since answering => congrArg Host.Outcome.next (frameSent_of_answering answering),
    fun f since flag sending => congrArg Host.Outcome.next ?_⟩,
    fun after lineIdle s => ⟨fun idle => congrArg Host.Outcome.next ?_,
      fun f since flag sending => congrArg Host.Outcome.next ?_,
      fun f since answering => congrArg Host.Outcome.next ?_⟩,
    fun driven sampled => ⟨arbitrationMismatch_iff driven sampled, ?_⟩⟩
  · show frameSent _ = _
    unfold frameSent
    rw [idle]
  · rw [show frameSent _ = _ from frameSent_of_sending sending, time_eq, finishSending_eq]
    rfl
  · show arbitrationLost _ _ = _
    unfold arbitrationLost
    rw [idle]
  · show arbitrationLost _ _ = _
    unfold arbitrationLost
    rw [sending]
    rfl
  · show arbitrationLost _ _ = _
    unfold arbitrationLost
    rw [answering]
    rfl
  · refine Bool.eq_false_iff.mpr fun mismatch => ?_
    obtain ⟨i, differ | differ⟩ := (arbitrationMismatch_iff driven driven).mp mismatch
    · simp [differ.1] at differ
    · simp [differ.1] at differ

end Sys2Proof.Machine

namespace Sys2Proof.Machine

/-! ## Offers to the upstream queue (O23) -/

/-- The lowest priority among the notices that are not being transmitted, in words (R15). -/
theorem lowestPriority_eq_some {q : List UpEntry} {p : Nat} :
    lowestPriority q = some p ↔ (∃ e ∈ q, e.isNotice = true ∧ e.sending = false ∧ e.rank = p) ∧
      ∀ e ∈ q, e.isNotice = true → e.sending = false → p ≤ e.rank := by
  have moves : ∀ e, e ∈ movable q ↔ e ∈ q ∧ e.isNotice = true ∧ e.sending = false := by
    intro e
    simp [movable]
  unfold lowestPriority
  rw [List.min?_eq_some_iff, List.mem_map, List.forall_mem_map]
  constructor
  · rintro ⟨⟨e, member, rank⟩, least⟩
    obtain ⟨queued, notice, still⟩ := (moves e).mp member
    exact ⟨⟨e, queued, notice, still, rank⟩, fun d queued notice still => least d ((moves d).mpr ⟨queued, notice, still⟩)⟩
  · rintro ⟨⟨e, queued, notice, still, rank⟩, least⟩
    refine ⟨⟨e, (moves e).mpr ⟨queued, notice, still⟩, rank⟩, fun d member => ?_⟩
    obtain ⟨queued, notice, still⟩ := (moves d).mp member
    exact least d queued notice still

theorem lowestPriority_eq_none {q : List UpEntry} (busy : ∀ e ∈ q, e.isNotice = true → e.sending = true) :
    lowestPriority q = none := by
  cases lowest : lowestPriority q with
  | none => rfl
  | some p =>
    obtain ⟨⟨e, queued, notice, still, -⟩, -⟩ := lowestPriority_eq_some.mp lowest
    rw [busy e queued notice] at still
    cases still

theorem rank_of_deferred {e : UpEntry} (deferred : e.isNotice = false) : e.rank = 8 := by
  obtain ⟨item, sending, merged⟩ := e
  cases item with
  | notice n => cases deferred
  | deferred d => rfl

theorem key_of_notice {e : UpEntry} (notice : e.isNotice = true) : e.key ≠ none := by
  obtain ⟨item, sending, merged⟩ := e
  cases item with
  | notice n => nofun
  | deferred d => cases notice

/-- In an ordered queue every DEFERRED REPLY stands ahead of every notice (R15). -/
theorem QueueOrdered.split {q : List UpEntry} (order : QueueOrdered q) :
    q.takeWhile (fun x => decide (8 ≤ x.rank)) = q.filter (fun e => !e.isNotice) ∧
    q.dropWhile (fun x => decide (8 ≤ x.rank)) = q.filter UpEntry.isNotice := by
  induction q with
  | nil => exact ⟨rfl, rfl⟩
  | cons e q ih =>
    rw [List.takeWhile_cons, List.dropWhile_cons]
    cases notice : e.isNotice with
    | false =>
      obtain ⟨ahead, behind⟩ := ih (order.sublist (List.sublist_cons_self e q))
      rw [rank_of_deferred notice, ahead, behind, List.filter_cons_of_pos (by simp [notice]),
        List.filter_cons_of_neg (by simp [notice])]
      exact ⟨rfl, rfl⟩
    | true =>
      obtain ⟨priority, ranks, -⟩ := order
      have low := (priority e List.mem_cons_self (key_of_notice notice)).2
      have notices : ∀ f ∈ q, f.isNotice = true := by
        intro f member
        refine Classical.byContradiction fun other => ?_
        have deferred := Bool.eq_false_iff.mpr other
        have := (List.pairwise_cons.mp ranks).1 f member
        rw [rank_of_deferred deferred] at this
        omega
      rw [decide_eq_false (by omega), List.filter_cons_of_neg (by simp [notice]), List.filter_cons_of_pos notice,
        List.filter_eq_self.mpr notices, List.filter_eq_nil_iff.mpr fun f member => by simp [notices f member]]
      exact ⟨rfl, rfl⟩

/-- A DEFERRED REPLY stands behind those queued and ahead of every notice (R15). -/
theorem place_deferred {q : List UpEntry} (order : QueueOrdered q) (d : DeferredReply) :
    place ⟨.deferred d, false, false⟩ q = (q.filter fun e => !e.isNotice) ++
      ⟨.deferred d, false, false⟩ :: q.filter UpEntry.isNotice := by
  obtain ⟨ahead, behind⟩ := order.split
  rw [← ahead, ← behind]
  rfl

theorem placeDeferred_of_room (d : DeferredReply) {s : State} (order : QueueOrdered s.upstream)
    (room : s.upstream.length < 8) : placeDeferred d s = { s with
      upstream := (s.upstream.filter fun e => !e.isNotice) ++
        ⟨.deferred d, false, false⟩ :: s.upstream.filter UpEntry.isNotice } := by
  unfold placeDeferred
  rw [if_neg (show ¬ Config.upstreamCapacity ≤ s.upstream.length from Nat.not_le_of_lt room), place_deferred order]

theorem offerDeferred_of_room (d : DeferredReply) {s : State} (room : s.upstream.length < 8) :
    offerDeferred d s = placeDeferred d s := by
  rw [offerDeferred_eq, if_neg (show ¬ Config.upstreamCapacity ≤ s.upstream.length from Nat.not_le_of_lt room)]

/-- A DEFERRED REPLY that finds the queue full displaces a notice (R15). -/
theorem offerDeferred_of_full (d : DeferredReply) {s : State} (order : QueueOrdered s.upstream)
    (full : s.upstream.length = 8) {q : List UpEntry} (made : makePlace s = markLost { s with upstream := q })
    (sub : q.Sublist s.upstream) (shorter : q.length < s.upstream.length) :
    offerDeferred d s = { s with
      upstream := (q.filter fun e => !e.isNotice) ++ ⟨.deferred d, false, false⟩ :: q.filter UpEntry.isNotice
      noticesLost := true, lostSinceStart := true } := by
  rw [offerDeferred_eq, if_pos (show Config.upstreamCapacity ≤ s.upstream.length from Nat.le_of_eq full.symm), made,
    placeDeferred_of_room d (order.sublist sub) (by rw [markLost_upstream]; exact full ▸ shorter)]
  rfl

theorem makePlace_of_lowest {s : State} {p : Nat} (lowest : lowestPriority s.upstream = some p) :
    makePlace s = markLost { s with upstream := dropOldest p s.upstream } := by
  unfold makePlace
  rw [lowest]

theorem makePlace_of_sending {s : State} (busy : lowestPriority s.upstream = none)
    (some : 0 < noticeCount s.upstream) :
    makePlace s = markLost { s with upstream := s.upstream.eraseP UpEntry.isNotice } := by
  unfold makePlace
  rw [busy]
  exact if_pos some

/-! ### Notices -/

section
variable {n : Notice} {s : State} (other : s.upstream.any (UpEntry.matches n) = false)
  (full : 4 ≤ noticeCount s.upstream ∨ 8 ≤ s.upstream.length)
include other full

/-- A notice that finds no place displaces one of a lower priority, or is lost (R16). -/
theorem offerNotice_of_lowest {p : Nat} (lowest : lowestPriority s.upstream = some p) :
    offerNotice n s =
      if p < n.priority then
        markLost { s with upstream := place ⟨.notice n, false, false⟩ (dropOldest p s.upstream) }
      else markLost s := by
  unfold offerNotice
  rw [if_neg (by simp [other]), if_neg, lowest]
  rintro ⟨notices, frames⟩
  simp only [Config.noticeCapacity, Config.upstreamCapacity] at notices frames
  omega

theorem offerNotice_of_busy (busy : lowestPriority s.upstream = none) : offerNotice n s = markLost s := by
  unfold offerNotice
  rw [if_neg (by simp [other]), if_neg, busy]
  rintro ⟨notices, frames⟩
  simp only [Config.noticeCapacity, Config.upstreamCapacity] at notices frames
  omega

end

/-- A merge replaces data and time of the notices of one kind and subject (R16). -/
theorem mergeInto_of_matches {n m : Notice} {e : UpEntry} (item : e.item = .notice m) (same : e.matches n = true) :
    mergeInto n e = ⟨.notice ⟨n.event, n.time, m.priority⟩, e.sending, e.sending⟩ := by
  unfold UpEntry.matches at same
  unfold mergeInto
  rw [item] at same ⊢
  exact if_pos same

theorem mergeInto_of_other {n : Notice} {e : UpEntry} (other : e.matches n = false) : mergeInto n e = e := by
  obtain ⟨item, sending, merged⟩ := e
  cases item with
  | deferred d => rfl
  | notice m => exact if_neg (by simpa [UpEntry.matches] using other)

/-- Settles O23: where an offered DEFERRED REPLY stands, and what becomes of an offered NOTICE. -/
theorem upstreamQueueTakesOffers : Obligations.UpstreamQueueTakesOffers := by
  refine ⟨fun d s ok few => ⟨fun room => ?room, fun full p lowest least => ?displace, fun full some busy => ?onlyOne⟩,
    fun n s => ⟨fun same => ?merge, fun other => ⟨fun free => ?free, fun full => ⟨fun p lowest => ?lower, fun busy => ?none⟩⟩⟩⟩
  case room =>
    rw [offerDeferred_of_room d room, placeDeferred_of_room d (upstreamOk_iff.mp ok) room]
  case displace =>
    have found := lowestPriority_eq_some.mpr ⟨lowest, least⟩
    obtain ⟨e, -, -, -, perm⟩ := dropOldest_perm found
    exact offerDeferred_of_full d (upstreamOk_iff.mp ok) full (makePlace_of_lowest found) List.eraseP_sublist
      (by rw [perm.length_eq]; exact Nat.lt_succ_self _)
  case onlyOne =>
    obtain ⟨e, queued, notice⟩ := some
    have notices : 0 < noticeCount s.upstream :=
      List.length_pos_of_mem (List.mem_filter.mpr ⟨queued, notice⟩)
    obtain ⟨d, -, perm⟩ := eraseNotice_perm notices
    exact offerDeferred_of_full _ (upstreamOk_iff.mp ok) full
      (makePlace_of_sending (lowestPriority_eq_none busy) notices) List.eraseP_sublist
      (by rw [perm.length_eq]; exact Nat.lt_succ_self _)
  case merge =>
    change s.upstream.any (UpEntry.matches n) = true at same
    refine ⟨s.upstream.map (mergeInto n), if_pos same, List.length_map _, fun i e queued => ⟨fun other => ?_, fun m item same => ?_⟩⟩
    · rw [List.getElem?_map, queued]
      exact congrArg some (mergeInto_of_other other)
    · rw [List.getElem?_map, queued]
      exact congrArg some (mergeInto_of_matches item same)
  case free =>
    change s.upstream.any (UpEntry.matches n) = false at other
    unfold offerNotice
    rw [if_neg (by simp [other]), if_pos]
    · rfl
    · rw [not_or, Nat.not_le, Nat.not_le] at free
      exact free
  case lower =>
    change s.upstream.any (UpEntry.matches n) = false at other
    exact offerNotice_of_lowest other full (lowestPriority_eq_some.mpr lowest)
  case none =>
    change s.upstream.any (UpEntry.matches n) = false at other
    exact offerNotice_of_busy other full (lowestPriority_eq_none busy)

end Sys2Proof.Machine

namespace Sys2Proof.Machine

/-! ## The output rule (O24) -/

theorem outputFor_of_none {s : State} {a : Addr} (unzoned : (s.row a).zone = none) (b : Nat) :
    s.outputFor a b = b := by
  unfold State.outputFor
  rw [unzoned]

theorem outputFor_of_some {s : State} {a : Addr} {z : ZoneId} (zoned : (s.row a).zone = some z) (b : Nat) :
    s.outputFor a b = if (s.zone z).mode = .unbound then b
      else boundOutput (s.zoneConfig z) (s.zone z) s.clock b (s.row a).pmin := by
  unfold State.outputFor
  rw [zoned]

/-- The output in a bound zone, case by case (R77, R78). -/
theorem boundOutput_eq (c : ZoneConfig) (v : ZoneStatus) (now : Clock) (b pmin : Nat) :
    boundOutput c v now b pmin =
      if b = 0 then 0
      else if v.ratio = 0 then
        (match v.zeroSince with
         | some t => if c.switchOff = true ∧ c.offDwell * 1000 ≤ t.interval now then 0 else pmin
         | none => pmin)
      else max pmin ((b * v.ratio + 999) / 1000) := by
  unfold boundOutput switchedOff
  cases v.zeroSince <;> simp

theorem boundOutput_zero (c : ZoneConfig) (v : ZoneStatus) (now : Clock) (pmin : Nat) :
    boundOutput c v now 0 pmin = 0 := if_pos rfl

/-- With a ratio of at most 1000 the output stays within the base level and the minimum level. -/
theorem boundOutput_le_max {v : ZoneStatus} (ratio : v.ratio ≤ 1000) (c : ZoneConfig) (now : Clock) (b pmin : Nat) :
    boundOutput c v now b pmin ≤ max b pmin := by
  have share : (b * v.ratio + 999) / 1000 ≤ b := by
    have product : b * v.ratio ≤ b * 1000 := Nat.mul_le_mul_left b ratio
    omega
  unfold boundOutput
  split
  · exact Nat.zero_le _
  · split
    · split
      · exact Nat.zero_le _
      · exact Nat.le_max_right _ _
    · omega

/-- Settles O24: the rule's cases, and its bounds. -/
theorem outputFollowsTheRule : Obligations.OutputFollowsTheRule := by
  intro s a b
  refine ⟨fun unzoned => outputFor_of_none unzoned b, fun z zoned => ?rule, fun zero => ?zero, fun ratios => ?bound⟩
  case rule =>
    exact (outputFor_of_some zoned b).trans (ite_congr_iff Iff.rfl rfl (boundOutput_eq _ _ _ _ _))
  case zero =>
    subst zero
    cases zoned : (s.row a).zone with
    | none => exact outputFor_of_none zoned 0
    | some z => rw [outputFor_of_some zoned, boundOutput_zero, ite_self]
  case bound =>
    cases zoned : (s.row a).zone with
    | none =>
      rw [outputFor_of_none zoned]
      exact Nat.le_max_left _ _
    | some z =>
      rw [outputFor_of_some zoned]
      split
      · exact Nat.le_max_left _ _
      · exact boundOutput_le_max (ratios z) _ _ _ _

/-! ## What a pass makes of channels and zones (O26) -/

theorem usableDirectly_iff (s : State) (c : ChannelId) :
    usableDirectly s c = true ↔ s.scan.first ≤ c ∧ c ≤ s.scan.last ∧
      ((s.channel c).health = .fresh ∨ (s.channel c).health = .suspect) := by
  simp [usableDirectly, inScanRange, and_assoc]

theorem channelValue_of_direct {s : State} {c : ChannelId} (direct : usableDirectly s c = true) :
    channelValue s c = some (s.channel c).reading := if_pos direct

theorem skyReading_isSome (s : State) :
    (skyReading s).isSome = true ↔ ∃ q, s.settings.sky = some q ∧ usableDirectly s q = true := by
  unfold skyReading
  cases s.settings.sky with
  | none => simp
  | some q =>
    by_cases direct : usableDirectly s q = true <;> simp [direct]

/-- A channel that is not usable directly is usable by substitution, or not at all (R66, R67). -/
theorem channelValue_isSome {s : State} {c : ChannelId} (notDirect : usableDirectly s c = false) :
    (channelValue s c).isSome = true ↔ s.scan.first ≤ c ∧ c ≤ s.scan.last ∧ (s.channel c).health = .stale ∧
      0 < (s.channelConfig c).k ∧ ∃ q, s.settings.sky = some q ∧ usableDirectly s q = true := by
  have range : inScanRange s c = true ↔ s.scan.first ≤ c ∧ c ≤ s.scan.last := by simp [inScanRange]
  rw [← skyReading_isSome]
  unfold channelValue
  rw [notDirect, if_neg Bool.false_ne_true]
  cases skyReading s with
  | none => simp
  | some sky =>
    dsimp only
    split
    · next all =>
      obtain ⟨within, stale, related⟩ := all
      obtain ⟨first, last⟩ := range.mp within
      exact ⟨fun _ => ⟨first, last, stale, related, rfl⟩, fun _ => rfl⟩
    · next not =>
      exact ⟨nofun, fun ⟨first, last, stale, related, _⟩ => absurd ⟨range.mpr ⟨first, last⟩, stale, related⟩ not⟩

theorem mem_weighed {s : State} {z : ZoneId} {c : ChannelId} : c ∈ weighed s z ↔ 0 < s.coeff z c := by
  simp [weighed, channelIds]

/-- A zone is blind when no channel it weighs is usable (R68). -/
theorem isBlind_iff (s : State) (z : ZoneId) :
    isBlind s z = true ↔ ∀ c, 0 < s.coeff z c → channelValue s c = none := by
  unfold isBlind
  simp only [List.all_eq_true, mem_weighed, Option.isNone_iff_eq_none]

theorem isDegraded_iff (s : State) (z : ZoneId) :
    isDegraded s z = true ↔ ¬ (∀ c, 0 < s.coeff z c → channelValue s c = none) ∧
      ∃ c, 0 < s.coeff z c ∧ usableDirectly s c = false := by
  rw [← isBlind_iff, isDegraded, Bool.and_eq_true, Bool.not_eq_true', Bool.not_eq_true]
  simp only [List.any_eq_true, mem_weighed, Bool.not_eq_true']

theorem modeAfterBlind_failsafe (m : ZoneMode) (blind : Bool) :
    modeAfterBlind m blind = .failsafe ↔ (m = .track ∨ m = .failsafe) ∧ blind = true := by
  cases m <;> cases blind <;> decide

theorem modeAfterBlind_track (m : ZoneMode) (blind : Bool) :
    modeAfterBlind m blind = .track ↔ (m = .track ∨ m = .failsafe) ∧ ¬ blind = true := by
  cases m <;> cases blind <;> decide

/-- A pass over a bound zone, field by field (R65 to R75). -/
theorem passZone_of_bound {s : State} {z : ZoneId} (bound : (s.zone z).mode ≠ .unbound) :
    passZone s z =
      { mode := modeAfterBlind (s.zone z).mode (isBlind s z)
        ratio := passRatio s z (modeAfterBlind (s.zone z).mode (isBlind s z))
        estimate := passEstimate s z (modeAfterBlind (s.zone z).mode (isBlind s z))
        lastPass := s.stamp
        zeroSince := zeroDwell (passRatio s z (modeAfterBlind (s.zone z).mode (isBlind s z)))
          (s.zone z).zeroSince s.stamp
        blind := isBlind s z
        degraded := isDegraded s z } := if_neg bound

/-- A pass raises R by at most a step up and lowers it by at most a step down (R73). -/
theorem slew_bounds (c : ZoneConfig) (dt r wanted : Nat) :
    slew c dt r wanted ≤ r + slewStep c.slewUp dt ∧ r ≤ slew c dt r wanted + slewStep c.slewDown dt := by
  unfold slew
  split <;> omega

theorem passRatio_bounds (s : State) (z : ZoneId) (m : ZoneMode) :
    passRatio s z m ≤ (s.zone z).ratio + slewStep (s.zoneConfig z).slewUp (passInterval (s.zone z) s.clock) ∧
    (s.zone z).ratio ≤
      passRatio s z m + slewStep (s.zoneConfig z).slewDown (passInterval (s.zone z) s.clock) := by
  cases m with
  | track => exact slew_bounds _ _ _ _
  | failsafe => exact slew_bounds _ _ _ _
  | unbound => exact ⟨Nat.le_add_right _ _, Nat.le_add_right _ _⟩
  | hold => exact ⟨Nat.le_add_right _ _, Nat.le_add_right _ _⟩
  | manual => exact ⟨Nat.le_add_right _ _, Nat.le_add_right _ _⟩

/-- The ratio a pass leaves in a zone, whatever its mode (R71 to R75). -/
theorem passZone_ratio (s : State) (z : ZoneId) :
    (passZone s z).ratio = if (s.zone z).mode = .unbound then (s.zone z).ratio
      else passRatio s z (passZone s z).mode := by
  split
  · next unbound => rw [passZone, if_pos unbound]
  · next bound => rw [passZone_of_bound bound]

/-- A ratio of at most 1000 stays so (R73). -/
theorem passRatio_le_full {s : State} {z : ZoneId} (within : (s.zone z).ratio ≤ 1000) (m : ZoneMode) :
    passRatio s z m ≤ 1000 := by
  cases m with
  | track => exact slew_le within (deadBanded_le (rawRatio_le _ _) within)
  | failsafe => exact slew_le within (Nat.le_refl _)
  | unbound => exact within
  | hold => exact within
  | manual => exact within

/-- R slews up to 1000 in FAILSAFE (R86). -/
theorem slew_to_full {c : ZoneConfig} {dt r : Nat} (within : r ≤ 1000) :
    slew c dt r 1000 = min 1000 (r + slewStep c.slewUp dt) := by
  unfold slew
  split <;> omega

/-- Settles O26: which channels have a value, and each field of a zone after a pass. -/
theorem passTreatsZones : Obligations.PassTreatsZones := by
  refine ⟨fun s c => ⟨fun direct => ?_, fun notDirect => ?_⟩, fun s z => ⟨fun unbound => ?_, fun bound => ?_⟩,
    fun s z => ?_⟩
  · exact channelValue_of_direct ((usableDirectly_iff s c).mpr direct)
  · have not : usableDirectly s c = false :=
      Bool.eq_false_iff.mpr fun direct => notDirect ((usableDirectly_iff s c).mp direct)
    rw [channelValue_isSome not]
    simp only [usableDirectly_iff]
  · rw [computePass_zone, passZone, if_pos unbound]
  · rw [computePass_zone, passZone_of_bound bound]
    dsimp only
    refine ⟨isBlind_iff s z, isDegraded_iff s z, ?_, ?_, fun kept => ?_, ?_, rfl, rfl⟩
    · rw [modeAfterBlind_failsafe, isBlind_iff]
    · rw [modeAfterBlind_track, isBlind_iff]
    · obtain hold | manual := kept
      · rw [hold]
        rfl
      · rw [manual]
        rfl
    · rw [passEstimate, estimateOf, accumulate_eq_sum]
  · rw [computePass_zone]
    by_cases unbound : (s.zone z).mode = .unbound
    · have same : passZone s z = s.zone z := by rw [passZone, if_pos unbound]
      rw [same]
      refine ⟨Nat.le_add_right _ _, Nat.le_add_right _ _, id, ?_, ⟨?_, ?_, fun bound => absurd unbound bound⟩,
        fun _ => rfl⟩ <;> rw [unbound] <;> exact nofun
    · have ratio := passZone_ratio s z
      rw [if_neg unbound] at ratio
      have failsafe : (passZone s z).mode = .failsafe → (passZone s z).ratio =
          slew (s.zoneConfig z) (passInterval (s.zone z) s.clock) (s.zone z).ratio 1000 := fun mode => by
        rw [ratio, mode, passRatio_failsafe]
      obtain ⟨raised, lowered⟩ := passRatio_bounds s z (passZone s z).mode
      rw [← ratio] at raised lowered
      refine ⟨raised, lowered, fun within => ?_, fun mode within => ?_,
        ⟨fun mode => ?_, fun mode => failsafe mode, fun _ => ratio⟩, fun kept => ?_⟩
      · rw [ratio]
        exact passRatio_le_full within _
      · rw [failsafe mode, slew_to_full within]
        rfl
      · have estimate : (passZone s z).estimate = estimateOf s z := by
          rw [passZone_of_bound unbound] at mode ⊢
          exact if_pos mode
        rw [ratio, mode, passRatio_track, deadBanded_eq, estimate]
        rfl
      · have mode : (passZone s z).mode = (s.zone z).mode := by
          rw [passZone_of_bound unbound]
          obtain hold | manual | other := kept
          · rw [hold]
            rfl
          · rw [manual]
            rfl
          · exact absurd other unbound
        rw [ratio, mode]
        obtain hold | manual | other := kept
        · rw [hold]
          rfl
        · rw [manual]
          rfl
        · exact absurd other unbound

/-! ## Output updates outside SYNCED (O31) -/

/-- Urgency and fade of an update to an entry whose frame waits or is on the row (R29, R30). -/
theorem setLum_settle (s : State) (a : Addr) (l : Lum) (urgent : Bool) (fade : Fade) :
    s.setLum a (l.settle urgent fade) =
      if urgent = true then s.setLum a { l with urgent := true, emissionFade := fade }
      else if l.urgent = true then s.setLum a l
      else s.setLum a { l with emissionFade := fade } := by
  unfold Lum.settle
  split
  · rfl
  · split <;> rfl

theorem applyUpdate_of_pending {a : Addr} {s : State} (h : (s.lum a).shadow = .pending)
    (o : Nat) (urgent : Bool) (fade : Fade) :
    applyUpdate a o urgent fade s =
      if (s.lum a).sentValid = true ∧ o = (s.lum a).sent then
        leavePending a (s.setLum a { s.lum a with output := o, shadow := .synced, urgent := false })
      else s.setLum a (({ s.lum a with output := o } : Lum).settle urgent fade) := by
  simp only [applyUpdate, h]

theorem applyUpdate_of_inFlight {a : Addr} {s : State} (h : (s.lum a).shadow = .inFlight)
    (o : Nat) (urgent : Bool) (fade : Fade) :
    applyUpdate a o urgent fade s = s.setLum a (({ s.lum a with output := o } : Lum).settle urgent fade) := by
  simp only [applyUpdate, h]

theorem applyUpdate_of_unknown {a : Addr} {s : State} (h : (s.lum a).shadow = .unknown)
    (o : Nat) (urgent : Bool) (fade : Fade) :
    applyUpdate a o urgent fade s = s.setLum a { s.lum a with output := o } := by
  simp only [applyUpdate, h]

/-- Settles O31: an update of an entry that waits, is on the row, or is not known. -/
theorem updateOutsideSynced : Obligations.UpdateOutsideSynced := by
  refine ⟨fun a o urgent fade s pending => ?pending, fun a o urgent fade s => ⟨fun flight => ?flight, fun unknown => ?unknown⟩⟩
  case pending =>
    rw [outputUpdate, applyUpdate_of_pending pending, setLum_settle]
    rfl
  case flight =>
    show outputUpdate a o urgent fade s = _
    rw [outputUpdate, applyUpdate_of_inFlight flight, setLum_settle]
  case unknown =>
    show outputUpdate a o urgent fade s = _
    unfold outputUpdate
    split
    · next same => exact (setLum_output_of_eq same.2).symm
    · exact applyUpdate_of_unknown unknown _ _ _

end Sys2Proof.Machine

namespace Sys2Proof.Machine

/-! ## A compute pass (O29) -/

/-- A pass's events touch only the upstream queue and the marks of a pending rescan (R54, R171). -/
def InScanFrame (s t : State) : Prop :=
  t = { s with
    upstream := t.upstream, noticesLost := t.noticesLost, lostSinceStart := t.lostSinceStart
    scan := { s.scan with pending := t.scan.pending, pendingUrgent := t.scan.pendingUrgent } }

theorem InScanFrame.trans {s t u : State} (h : InScanFrame s t) (k : InScanFrame t u) : InScanFrame s u := by
  unfold InScanFrame at h k ⊢
  rw [k, h]

theorem UpstreamFrame.inScan {s t : State} (h : UpstreamFrame s t) : InScanFrame s t := by
  unfold UpstreamFrame at h
  unfold InScanFrame
  rw [h]

theorem foldl_raiseInScan_frame (es : List Event) (s : State) : InScanFrame s (es.foldl raiseInScan s) :=
  foldl_raiseInScan_keeps (Inv := InScanFrame s) (fun _ _ _ h => h.trans rfl)
    (fun e t h => h.trans (noticeOf_frame e t).inScan) es rfl

/-- The zones as a pass settles them, before updates and events. -/
def settledZones (s : State) : State := { s with zones := Vector.ofFn (passZone s) }

@[simp] theorem settledZones_zone (s : State) (z : ZoneId) : (settledZones s).zone z = passZone s z := by
  simp [settledZones, State.zone]

theorem computePass_eq (s : State) :
    computePass s = (passEvents s (settledZones s)).foldl raiseInScan
      ((settledZones s).handOutputs (settledZones s).boundMembers) := rfl

theorem computePass_zones (s : State) : (computePass s).zones = (settledZones s).zones := by
  refine Vector.ext fun i below => ?_
  have pass := computePass_zone s ⟨i, below⟩
  have settled := settledZones_zone s ⟨i, below⟩
  exact pass.trans settled.symm

theorem settledZones_isLum (s : State) (a : Addr) : (settledZones s).isLum a = s.isLum a := rfl

theorem settledZones_row (s : State) (a : Addr) : (settledZones s).row a = s.row a := rfl

/-- A pass neither binds nor unbinds a zone, so it hands outputs to the same entries (R76). -/
theorem settledZones_boundMembers (s : State) : (settledZones s).boundMembers = s.boundMembers := by
  have bound : ∀ z, ((settledZones s).zone z).mode = .unbound ↔ (s.zone z).mode = .unbound := fun z => by
    rw [settledZones_zone, passZone_unbound]
  unfold State.boundMembers
  refine List.filter_congr fun a _ => ?_
  rw [settledZones_isLum, settledZones_row]
  refine congrArg (s.isLum a && ·) ?_
  cases (s.row a).zone with
  | none => rfl
  | some z => exact Bool.eq_iff_iff.mpr (by rw [bne_iff_ne, bne_iff_ne]; exact not_congr (bound z))

theorem mem_boundMembers {s : State} {a : Addr} :
    a ∈ s.boundMembers ↔ s.isLum a = true ∧ ∃ z, (s.row a).zone = some z ∧ (s.zone z).mode ≠ .unbound := by
  unfold State.boundMembers
  rw [List.mem_filter, Bool.and_eq_true]
  cases (s.row a).zone <;> simp [addresses]

theorem boundMembers_nodup (s : State) : s.boundMembers.Nodup := addresses_nodup.filter _

/-- What the events after a pass leave of the entries is what the updates left. -/
theorem computePass_lum (s : State) (a : Addr) :
    (computePass s).lum a = if a ∈ s.boundMembers then (recompute (settledZones s) a).lum a else s.lum a := by
  have frame := foldl_raiseInScan_frame (passEvents s (settledZones s))
    ((settledZones s).handOutputs s.boundMembers)
  rw [computePass_eq, settledZones_boundMembers]
  have same : ((passEvents s (settledZones s)).foldl raiseInScan
      ((settledZones s).handOutputs s.boundMembers)).lum a = ((settledZones s).handOutputs s.boundMembers).lum a := by
    unfold InScanFrame at frame
    rw [frame]
    rfl
  rw [same, handOutputs_lum _ (boundMembers_nodup s)]
  rfl

/-- The output rule after a pass is that with the zones settled. -/
theorem computePass_outputFor (s : State) (a : Addr) (b : Nat) :
    (computePass s).outputFor a b = (settledZones s).outputFor a b := by
  have frame := computePass_frame s
  have zones : ∀ z, (computePass s).zone z = (settledZones s).zone z := fun z => by
    rw [computePass_zone, settledZones_zone]
  unfold State.outputFor
  rw [show (computePass s).row a = (settledZones s).row a by unfold EventFrame at frame; rw [frame]; rfl]
  split
  · rfl
  · next z _ =>
    rw [zones, show (computePass s).zoneConfig z = (settledZones s).zoneConfig z by
      unfold EventFrame at frame; rw [frame]; rfl,
      show (computePass s).clock = (settledZones s).clock by unfold EventFrame at frame; rw [frame]; rfl]

/-- The events of a pass are raised for the zones that changed between TRACK and FAILSAFE (R85, R86). -/
theorem passEvents_eq (s t : State) :
    passEvents s t = zoneIds.flatMap fun z =>
      if (s.zone z).mode = .track ∧ (t.zone z).mode = .failsafe then
        [Event.zoneFailsafeEntered z (t.zone z).ratio (t.zone z).estimate]
      else if (s.zone z).mode = .failsafe ∧ (t.zone z).mode = .track then
        [Event.zoneFailsafeLeft z (t.zone z).ratio (t.zone z).estimate]
      else [] := by
  unfold passEvents
  rw [filterMap_eq_flatMap_toList]
  refine congrArg (fun f => zoneIds.flatMap f) (funext fun z => ?_)
  unfold passEvent
  cases (s.zone z).mode <;> cases (t.zone z).mode <;> rfl

/-- The recomputation of a bound zone's member after the zones are settled (R76). -/
theorem recompute_settledZones {s : State} {a : Addr} {z : ZoneId} (zoned : (s.row a).zone = some z) :
    (recompute (settledZones s) a).lum a =
      (outputUpdate a ((computePass s).outputFor a (s.lum a).base) false (s.zoneConfig z).trimFade s).lum a := by
  have fade : (settledZones s).updateFade a = (s.zoneConfig z).trimFade := by
    unfold State.updateFade
    rw [settledZones_row, zoned]
    rfl
  rw [computePass_outputFor, recompute, fade]
  exact outputUpdate_own a _ _ _ s (settledZones s) rfl

/-- An entry that is no member of a bound zone is passed over (R76). -/
theorem computePass_lum_of_other {s : State} {a : Addr}
    (other : s.isLum a = false ∨ (s.row a).zone = none ∨
      ∃ z, (s.row a).zone = some z ∧ (s.zone z).mode = .unbound) : (computePass s).lum a = s.lum a := by
  rw [computePass_lum, if_neg]
  intro member
  obtain ⟨luminaire, z, zoned, bound⟩ := mem_boundMembers.mp member
  obtain none | unzoned | ⟨y, zoned', unbound⟩ := other
  · rw [luminaire] at none
    cases none
  · rw [zoned] at unzoned
    cases unzoned
  · rw [zoned] at zoned'
    cases zoned'
    exact bound unbound

/-- A pass keeps everything of an entry but output, shadow, urgency and emission fade (R27). -/
theorem computePass_sameBut (s : State) (a : Addr) : (s.lum a).SameBut ((computePass s).lum a) := by
  rw [computePass_lum]
  split
  · exact (outputUpdate_lum a a _ _ _ (settledZones s)).2.2
  · exact .refl _

/-- Settles O29: the pass as updates and then events, and what these leave of each entry. -/
theorem passRecomputesBoundMembers : Obligations.PassRecomputesBoundMembers := by
  intro s
  have settled : ({ s with zones := (computePass s).zones } : State) = settledZones s := by
    rw [computePass_zones]
    rfl
  have zone : ∀ z, (computePass s).zone z = (settledZones s).zone z := fun z => by
    rw [computePass_zone, settledZones_zone]
  have steps := computePass_eq s
  rw [settledZones_boundMembers] at steps
  have frame := foldl_raiseInScan_frame (passEvents s (settledZones s)) ((settledZones s).handOutputs s.boundMembers)
  rw [← steps] at frame
  have updates := handOutputs_frame s.boundMembers (settledZones s)
  refine ⟨?steps, ?frame, fun a z luminaire zoned bound => ?member, fun a => computePass_lum_of_other, fun a => ?kept⟩
  case steps =>
    rw [settled]
    simp only [zone]
    rw [← passEvents_eq]
    exact steps
  case frame =>
    rw [settled]
    change computePass s = { s with
      zones := (computePass s).zones
      lums := ((settledZones s).handOutputs s.boundMembers).lums
      pendingList := ((settledZones s).handOutputs s.boundMembers).pendingList
      upstream := (computePass s).upstream
      noticesLost := (computePass s).noticesLost, lostSinceStart := (computePass s).lostSinceStart
      scan := { s.scan with
        pending := (computePass s).scan.pending, pendingUrgent := (computePass s).scan.pendingUrgent } }
    rw [computePass_zones]
    generalize computePass s = t at frame ⊢
    generalize (settledZones s).handOutputs s.boundMembers = u at frame updates ⊢
    unfold InScanFrame at frame
    unfold RowMapFrame at updates
    rw [updates] at frame
    exact frame
  case member =>
    have own : (computePass s).lum a = (recompute (settledZones s) a).lum a := by
      rw [computePass_lum, if_pos (mem_boundMembers.mpr ⟨luminaire, z, zoned, bound⟩)]
    refine ⟨own.trans (recompute_settledZones zoned), ?_⟩
    rw [own, recompute_settledZones zoned]
    exact (outputUpdate_lum a a _ _ _ s).2.1
  case kept =>
    have same := computePass_sameBut s a
    unfold Lum.SameBut at same
    rw [same]
    exact ⟨rfl, rfl, rfl, rfl, rfl, rfl, rfl, rfl⟩

end Sys2Proof.Machine

namespace Sys2Proof.Machine

/-! ## SET LEVEL: absorbed or forwarded (O32) -/

theorem takenFade_eq (fade : Byte) : takenFade fade = Fin.ofNat 16 (min fade.toNat 15) := by
  refine Fin.ext ?_
  rw [takenFade_val]
  show _ = min fade.toNat 15 % 16
  split <;> omega

/-- An absorption always takes effect: its update is urgent (R99). -/
theorem absorb_eq (level : Nat) (fade : Fade) (s : State) (a : Addr) :
    absorb level fade s a = applyUpdate a (s.outputFor a level) true fade
      (s.setLum a { s.lum a with base := level, baseFade := fade }) := by
  have frame := setLum_frame s a { s.lum a with base := level, baseFade := fade }
  unfold absorb
  dsimp only
  unfold State.outputOf
  rw [lum_setLum_self, frame.outputFor]
  exact if_neg fun h => absurd h.1 nofun

/-- What an absorption leaves of its entry (R28 to R30, R99). -/
theorem absorb_lum (level : Nat) (fade : Fade) (s : State) (a : Addr) :
    (absorb level fade s a).lum a = (s.lum a).afterAbsorb level fade (s.outputFor a level) := by
  rw [absorb_eq]
  generalize s.outputFor a level = o
  have self := lum_setLum_self s a { s.lum a with base := level, baseFade := fade }
  generalize s.setLum a { s.lum a with base := level, baseFade := fade } = t at self ⊢
  unfold Lum.afterAbsorb
  cases shadow : (s.lum a).shadow with
  | synced =>
    rw [applyUpdate_of_synced (by rw [self]; exact shadow), self]
    by_cases sent : o = (s.lum a).sent
    · rw [if_pos sent, lum_setLum_self]
      simp only [shadow, if_pos sent]
    · rw [if_neg sent]
      exact (lum_setLum_self t a _).trans (if_neg sent).symm
  | pending =>
    rw [applyUpdate_of_pending (by rw [self]; exact shadow), self]
    by_cases back : (s.lum a).sentValid = true ∧ o = (s.lum a).sent
    · rw [if_pos back]
      exact (lum_setLum_self t a _).trans (if_pos back).symm
    · rw [if_neg back, lum_setLum_self]
      simp only [Lum.settle, shadow, if_neg back, if_true]
  | inFlight =>
    rw [applyUpdate_of_inFlight (by rw [self]; exact shadow), self, lum_setLum_self]
    simp only [Lum.settle, shadow, if_true]
  | unknown =>
    rw [applyUpdate_of_unknown (by rw [self]; exact shadow), self, lum_setLum_self]
    simp only [shadow]

/-- What an absorption makes of the pending list: a withdrawn entry leaves, a joining one stands at the tail (R28, R29). -/
theorem absorb_pendingList {s : State} (nodup : s.pendingList.Nodup) (level : Nat) (fade : Fade) (a : Addr) :
    (absorb level fade s a).pendingList =
      (s.pendingList.filter fun b => !(a == b && (s.lum b).withdrawnBy (s.outputFor b level))) ++
        [a].filter fun b => (s.lum b).joinedBy (s.outputFor b level) := by
  have stays : (s.lum a).withdrawnBy (s.outputFor a level) = false →
      (s.pendingList.filter fun b => !(a == b && (s.lum b).withdrawnBy (s.outputFor b level))) = s.pendingList := by
    intro not
    refine List.filter_eq_self.mpr fun b _ => ?_
    by_cases same : a = b
    · rw [← same, not, Bool.and_false]
      rfl
    · rw [beq_eq_false_iff_ne.mpr same]
      rfl
  have leaves : (s.lum a).withdrawnBy (s.outputFor a level) = true →
      (s.pendingList.filter fun b => !(a == b && (s.lum b).withdrawnBy (s.outputFor b level))) =
        s.pendingList.erase a := by
    intro withdrawn
    rw [nodup.erase_eq_filter]
    refine List.filter_congr fun b _ => ?_
    by_cases same : b = a
    · rw [same, withdrawn, beq_self_eq_true, bne_self_eq_false]
      rfl
    · rw [beq_eq_false_iff_ne.mpr (Ne.symm same), bne_iff_ne.mpr same]
      rfl
  have joins : ([a].filter fun b => (s.lum b).joinedBy (s.outputFor b level)) =
      if (s.lum a).joinedBy (s.outputFor a level) = true then [a] else [] := by
    rw [List.filter_cons, List.filter_nil]
  rw [absorb_eq, joins]
  generalize s.outputFor a level = o at stays leaves ⊢
  have self := lum_setLum_self s a { s.lum a with base := level, baseFade := fade }
  have list : (s.setLum a { s.lum a with base := level, baseFade := fade }).pendingList = s.pendingList := rfl
  generalize s.setLum a { s.lum a with base := level, baseFade := fade } = t at self list ⊢
  cases shadow : (s.lum a).shadow with
  | synced =>
    rw [applyUpdate_of_synced (by rw [self]; exact shadow), self, stays (by simp [Lum.withdrawnBy, shadow])]
    by_cases sent : o = (s.lum a).sent
    · simp [Lum.joinedBy, sent, shadow, list]
    · simp [Lum.joinedBy, sent, shadow, list, joinPending]
  | pending =>
    rw [applyUpdate_of_pending (by rw [self]; exact shadow), self]
    by_cases back : (s.lum a).sentValid = true ∧ o = (s.lum a).sent
    · rw [leaves (by simp [Lum.withdrawnBy, shadow, back])]
      simp [Lum.joinedBy, shadow, back, list, leavePending]
    · rw [stays (by simpa [Lum.withdrawnBy, shadow] using back)]
      simp [Lum.joinedBy, shadow, back, list]
  | inFlight =>
    rw [applyUpdate_of_inFlight (by rw [self]; exact shadow), self, stays (by simp [Lum.withdrawnBy, shadow])]
    simp [Lum.joinedBy, shadow, list]
  | unknown =>
    rw [applyUpdate_of_unknown (by rw [self]; exact shadow), self, stays (by simp [Lum.withdrawnBy, shadow])]
    simp [Lum.joinedBy, shadow, list]

/-- The pending list after an absorption into several entries: the withdrawn ones leave, those that join stand at the tail in their order (R100, R101). -/
theorem absorbAll_pendingList {s : State} (rowMap : s.RowMapOk) (level : Nat) (fade : Fade) {as : List Addr}
    (nodup : as.Nodup) :
    (absorbAll level fade as s).pendingList =
      (s.pendingList.filter fun b => !(as.contains b && (s.lum b).withdrawnBy (s.outputFor b level))) ++
        as.filter fun b => (s.lum b).joinedBy (s.outputFor b level) := by
  unfold absorbAll
  induction as generalizing s with
  | nil =>
    rw [List.filter_nil, List.append_nil]
    exact (List.filter_eq_self.mpr fun _ _ => rfl).symm
  | cons a as ih =>
    obtain ⟨absent, nodup⟩ := List.nodup_cons.mp nodup
    have same : ∀ b ∈ as, (absorb level fade s a).lum b = s.lum b ∧
        (absorb level fade s a).outputFor b level = s.outputFor b level := fun b member =>
      ⟨absorb_other level fade s a b fun e => absent (e ▸ member), (absorb_frame level fade s a).outputFor b level⟩
    have joined : (as.filter fun b => ((absorb level fade s a).lum b).joinedBy
          ((absorb level fade s a).outputFor b level)) =
        as.filter fun b => (s.lum b).joinedBy (s.outputFor b level) :=
      List.filter_congr fun b member => by rw [(same b member).1, (same b member).2]
    have withdrawn : ∀ b, (as.contains b && ((absorb level fade s a).lum b).withdrawnBy
          ((absorb level fade s a).outputFor b level)) =
        (as.contains b && (s.lum b).withdrawnBy (s.outputFor b level)) := fun b => by
      by_cases member : b ∈ as
      · rw [(same b member).1, (same b member).2]
      · rw [Bool.eq_false_iff.mpr fun h => member (List.contains_iff_mem.mp h)]
        rfl
    have tail : (([a].filter fun b => (s.lum b).joinedBy (s.outputFor b level)).filter fun b =>
          !(as.contains b && (s.lum b).withdrawnBy (s.outputFor b level))) =
        [a].filter fun b => (s.lum b).joinedBy (s.outputFor b level) := by
      refine List.filter_eq_self.mpr fun b member => ?_
      rw [List.mem_singleton.mp (List.mem_filter.mp member).1, Bool.eq_false_iff.mpr fun h => absent (List.contains_iff_mem.mp h)]
      rfl
    rw [List.foldl_cons, ih (rowMap.absorb level fade a) nodup, joined]
    simp only [withdrawn]
    rw [absorb_pendingList rowMap.1, List.filter_append, tail, List.filter_filter, List.append_assoc,
      ← List.filter_append, List.singleton_append]
    refine congrArg (· ++ _) (List.filter_congr fun b _ => ?_)
    rw [List.contains_cons, BEq.comm (a := b)]
    cases a == b <;> cases as.contains b <;> cases (s.lum b).withdrawnBy (s.outputFor b level) <;> rfl

/-- An absorption into several entries does what the claims say of it. -/
theorem absorbAll_absorbedInto {v : State} (rowMap : v.RowMapOk) (level : Nat) (fade : Fade) {as : List Addr}
    (nodup : as.Nodup) : State.AbsorbedInto as level fade v (absorbAll level fade as v) := by
  refine ⟨absorbAll_frame level fade as v, fun a other => ?_, fun a member => ?_,
    absorbAll_pendingList rowMap level fade nodup⟩
  · rw [absorbAll_lum level fade as nodup, if_neg other]
  · rw [absorbAll_lum level fade as nodup, if_pos member, absorb_lum]

theorem trunkFrameEnd_rowMapOk {s : State} (rowMap : s.RowMapOk) (after : Nat) : (trunkFrameEnd after s).RowMapOk :=
  rowMapRule.trunkFrameEnd after rowMap

/-- Settles O32: absorbed into a luminaire, a group's luminaires or all of them, and forwarded otherwise. -/
theorem setLevelIsAbsorbedOrForwarded : Obligations.SetLevelIsAbsorbedOrForwarded := by
  refine ⟨fun after dest a g level fade extra s rowMap => ?absorbed, fun after dest a g level fade extra s => ?forwarded⟩
  case absorbed =>
    have kept := trunkFrameEnd_rowMapOk rowMap after
    have into : ∀ {as : List Addr}, as.Nodup → State.AbsorbedInto as (min level.toNat 1000)
        (Fin.ofNat 16 (min fade.toNat 15)) (trunkFrameEnd after s)
        (absorbAll (takenLevel level) (takenFade fade) as (trunkFrameEnd after s)) := fun nodup => by
      rw [← takenFade_eq]
      exact absorbAll_absorbedInto kept _ _ nodup
    refine ⟨fun luminaire => ⟨_, rfl, ?_⟩, fun some => ?_⟩
    · rw [setLevelUnit_of_luminaire luminaire]
      exact into (List.pairwise_singleton _ a)
    · obtain ⟨b, luminaire⟩ := some
      have harvesting := harvesting_of_luminaire luminaire
      refine ⟨⟨_, rfl, ?_⟩, _, rfl, ?_⟩
      · rw [setLevelGroup_of_harvesting harvesting]
        exact into (addresses_nodup.filter _)
      · rw [setLevelAll_of_harvesting harvesting]
        exact into (addresses_nodup.filter _)
  case forwarded =>
    refine ⟨fun other => ⟨_, rfl, ?_⟩, fun none => ?_⟩
    · rw [setLevelUnit_of_not_luminaire other]
      exact forwardUntagged_forwardedAs _ _
    · have repeater : ¬ (trunkFrameEnd after s).harvesting = true := fun harvesting => by
        obtain ⟨b, -, luminaire⟩ := List.any_eq_true.mp harvesting
        rw [none b] at luminaire
        cases luminaire
      refine ⟨⟨_, rfl, ?_⟩, _, rfl, ?_⟩
      · rw [setLevelGroup, if_neg repeater]
        exact forwardUntagged_forwardedAs _ _
      · rw [setLevelAll, if_neg repeater]
        exact forwardUntagged_forwardedAs _ _

end Sys2Proof.Machine

namespace Sys2Proof.Machine

/-! ## Deferral (R134, R135) -/

/-- Of nine tags in a row one is not among fewer than eight others. -/
theorem exists_free_tag (last : Tag) {inUse : List Tag} (room : inUse.length < 8) :
    ∃ k, k < 9 ∧ Fin.ofNat 16 (last.val + 1 + k) ∉ inUse := by
  refine Classical.byContradiction fun none => ?_
  have nodup : ((List.range 9).map fun k => (Fin.ofNat 16 (last.val + 1 + k) : Tag)).Nodup := by
    refine List.pairwise_map.mpr (List.nodup_range.imp_of_mem fun {i j} below below' differ same => differ ?_)
    have same : (last.val + 1 + i) % 16 = (last.val + 1 + j) % 16 := congrArg Fin.val same
    rw [List.mem_range] at below below'
    omega
  have within := length_le_of_subset (m := inUse) nodup fun t member => by
    obtain ⟨k, below, rfl⟩ := List.mem_map.mp member
    exact Classical.byContradiction fun free => none ⟨k, List.mem_range.mp below, free⟩
  rw [List.length_map, List.length_range] at within
  omega

/-- With fewer than eight tags in use the next tag is the first free one of the nine after the last (R135). -/
theorem nextTag_of_room (last : Tag) {inUse : List Tag} (room : inUse.length < 8) :
    ∃ k, k < 9 ∧ nextTag last inUse = some (Fin.ofNat 16 (last.val + 1 + k)) ∧
      Fin.ofNat 16 (last.val + 1 + k) ∉ inUse ∧
      ∀ j, j < k → Fin.ofNat 16 (last.val + 1 + j) ∈ inUse := by
  obtain ⟨k, within, free, least⟩ := exists_least (p := fun k => Fin.ofNat 16 (last.val + 1 + k) ∉ inUse)
    (exists_free_tag last room).choose_spec.2
  have below : k < 9 := Nat.lt_of_le_of_lt within (exists_free_tag last room).choose_spec.1
  have taken : ∀ j, j < k → Fin.ofNat 16 (last.val + 1 + j) ∈ inUse := fun j before =>
    Classical.not_not.mp (least j before)
  refine ⟨k, below, ?_, free, taken⟩
  have first : (List.range 16).find? ((fun t => !inUse.contains t) ∘ fun k => (Fin.ofNat 16 (last.val + 1 + k) : Tag)) =
      some k := by
    refine List.find?_range_eq_some.mpr ⟨?_, List.mem_range.mpr (by omega), fun j before => ?_⟩
    · simpa using free
    · simpa using taken j before
  rw [nextTag, List.find?_map, first]
  rfl

theorem relayFull_iff (s : State) : relayFull s = true ↔ ¬ (s.forward.length < 4 ∧ s.tagsInUse.length < 8) := by
  rw [relayFull, decide_eq_true_iff]
  simp only [Config.forwardCapacity, Config.tagCapacity]
  omega

/-- A deferred request takes a tag and a place, or is answered BUSY (R134, R135). -/
theorem defer_deferredAs (f : Frame) (v : State) : State.DeferredAs f v (defer f v) := by
  unfold State.DeferredAs defer
  by_cases room : v.forward.length < 4 ∧ v.tagsInUse.length < 8
  · rw [if_pos room, if_neg fun full => (relayFull_iff v).mp full room]
    obtain ⟨k, below, next, free, taken⟩ := nextTag_of_room v.lastTag room.2
    refine ⟨_, k, below, rfl, free, taken, ?_⟩
    rw [next]
    rfl
  · rw [if_neg room, if_pos ((relayFull_iff v).mpr room)]
    rfl

/-! ## DEVICE CONFIG (O34) -/

/-- The frame a DEVICE CONFIG is passed on as (R106, R107). -/
def configFrame (s : State) (target : Target) (payload : List Byte) : Frame :=
  ⟨.deviceConfig, s.segmentByte, target.byte, payload⟩

theorem takeConfig_of_owned {s : State} {dest : Dest} {target : Target} {payload : List Byte}
    (h : configTreatment s dest target (configFrame s target payload).isSetGroups = .owned) :
    takeConfig dest target payload s = answerWith (relayResponse s target.byte .owned []) s := by
  simp only [configFrame] at h
  simp only [takeConfig, h]

theorem takeConfig_of_discarded {s : State} {dest : Dest} {target : Target} {payload : List Byte}
    (h : configTreatment s dest target (configFrame s target payload).isSetGroups = .discarded) :
    takeConfig dest target payload s = s := by
  simp only [configFrame] at h
  simp only [takeConfig, h]

theorem takeConfig_of_deferred {s : State} {dest : Dest} {target : Target} {payload : List Byte}
    (h : configTreatment s dest target (configFrame s target payload).isSetGroups = .deferred) :
    takeConfig dest target payload s = defer (configFrame s target payload) s := by
  simp only [configFrame] at h
  simp only [takeConfig, h, configFrame]

theorem takeConfig_of_forwarded {s : State} {dest : Dest} {target : Target} {payload : List Byte}
    (h : configTreatment s dest target (configFrame s target payload).isSetGroups = .forwarded) :
    takeConfig dest target payload s = forwardUntagged (configFrame s target payload) s := by
  simp only [configFrame] at h
  simp only [takeConfig, h, configFrame]

theorem isSetGroups_cons (s : State) (target : Target) (code : Byte) (payload : List Byte) :
    (configFrame s target (code :: payload)).isSetGroups = (code == 1) := rfl

/-- To one unit, and not SET GROUPS to a luminaire, it is deferred, or forwarded for segment 255 (R105). -/
theorem takeConfig_unit {s : State} {a : Addr} {code : Byte}
    (notOwned : ¬ (code = 1 ∧ s.isLum a = true)) (dest : Dest) (payload : List Byte) :
    match dest with
    | .own => State.DeferredAs (configFrame s (.unit a) (code :: payload)) s
        (takeConfig dest (.unit a) (code :: payload) s)
    | .all => State.ForwardedAs (configFrame s (.unit a) (code :: payload)) s
        (takeConfig dest (.unit a) (code :: payload) s) := by
  have not : ¬ ((code == 1) = true ∧ s.isLum a = true) := by rwa [beq_iff_eq]
  cases dest with
  | own =>
    dsimp only
    rw [takeConfig_of_deferred (by rw [isSetGroups_cons]; exact if_neg not)]
    exact defer_deferredAs _ s
  | all =>
    dsimp only
    rw [takeConfig_of_forwarded (by rw [isSetGroups_cons]; exact if_neg not)]
    exact forwardUntagged_forwardedAs _ s

/-- To a group or unit 127 it is discarded as SET GROUPS in HARVESTING, and else forwarded (R106, R107). -/
theorem configTreatment_wide {target : Target} (wide : ∀ b, target ≠ .unit b) (s : State) (dest : Dest)
    (setGroups : Bool) : configTreatment s dest target setGroups =
      if setGroups = true ∧ s.harvesting = true then .discarded else .forwarded := by
  cases target with
  | unit b => exact absurd rfl (wide b)
  | group g => rfl
  | all => rfl

theorem takeConfig_wide {target : Target} (wide : ∀ b, target ≠ .unit b) {s : State} {code : Byte}
    (passed : ¬ (code = 1 ∧ s.harvesting = true)) (dest : Dest) (payload : List Byte) :
    State.ForwardedAs (configFrame s target (code :: payload)) s (takeConfig dest target (code :: payload) s) := by
  have not : ¬ ((code == 1) = true ∧ s.harvesting = true) := by rwa [beq_iff_eq]
  rw [takeConfig_of_forwarded (by rw [isSetGroups_cons, configTreatment_wide wide, if_neg not])]
  exact forwardUntagged_forwardedAs _ s

/-- Settles O34: by sub-kind, target and segment condition. -/
theorem deviceConfigIsTreatedByTarget : Obligations.DeviceConfigIsTreatedByTarget := by
  intro after dest a wide mask code extra s isWide
  refine ⟨fun luminaire => ?owned, fun other => ⟨_, rfl, ?unit⟩, fun notGroups => ⟨_, rfl, ?otherUnit⟩,
    fun harvesting => ?discarded, fun repeater => ⟨_, rfl, ?wide⟩, fun notGroups => ⟨_, rfl, ?otherWide⟩⟩
  case owned =>
    have both : ((1 : Byte) == 1) = true ∧ (trunkFrameEnd after s).isLum a = true := ⟨rfl, luminaire⟩
    cases dest with
    | own => exact congrArg (fun u => Host.Outcome.next (arbitrate u)) (takeConfig_of_owned (if_pos both))
    | all => exact congrArg (fun u => Host.Outcome.next (arbitrate u)) (takeConfig_of_discarded (if_pos both))
  case unit => exact takeConfig_unit (fun h => absurd h.2 (Bool.eq_false_iff.mp other)) dest _
  case otherUnit => exact takeConfig_unit (fun h => notGroups h.1) dest _
  case discarded =>
    refine congrArg (fun u => Host.Outcome.next (arbitrate u)) (takeConfig_of_discarded ?_)
    rw [configTreatment_wide isWide]
    exact if_pos ⟨rfl, harvesting⟩
  case wide => exact takeConfig_wide isWide (fun h => absurd h.2 (Bool.eq_false_iff.mp repeater)) dest _
  case otherWide => exact takeConfig_wide isWide (fun h => notGroups h.1) dest _

/-! ## Queries (O35) -/

theorem channelIds_ascending : channelIds.Pairwise (· < ·) := List.pairwise_lt_finRange 8

theorem mem_channelIds (c : ChannelId) : c ∈ channelIds := List.mem_finRange c

theorem namesFresh_iff (s : State) (a : Addr) (c : ChannelId) :
    ((s.channelConfig c).unit == some a && (s.channel c).health == .fresh) = true ↔
      (s.channelConfig c).unit = some a ∧ (s.channel c).health = .fresh := by
  rw [Bool.and_eq_true, beq_iff_eq, beq_iff_eq]

theorem freshChannel_of_least {s : State} {a : Addr} {c : ChannelId}
    (fits : (s.channelConfig c).unit = some a ∧ (s.channel c).health = .fresh)
    (least : ∀ d, (s.channelConfig d).unit = some a ∧ (s.channel d).health = .fresh → c ≤ d) :
    freshChannel s a = some c :=
  find?_of_least channelIds_ascending (mem_channelIds c) ((namesFresh_iff s a c).mpr fits)
    fun d _ fits => least d ((namesFresh_iff s a d).mp fits)

theorem freshChannel_eq_none {s : State} {a : Addr}
    (unread : ∀ c, ¬ ((s.channelConfig c).unit = some a ∧ (s.channel c).health = .fresh)) : freshChannel s a = none :=
  List.find?_eq_none.mpr fun c _ fits => unread c ((namesFresh_iff s a c).mp fits)

theorem proxyReading_of_fresh {s : State} {a : Addr} {c : ChannelId} (sensor : (s.row a).role = .sensor)
    (fresh : freshChannel s a = some c) : proxyReading s a = some (bytes16 (s.channel c).reading ++
      [0, byte (min 255 ((s.channel c).lastGood.interval s.clock / 100)), 1]) := by
  rw [proxyReading, if_pos sensor, fresh]
  rfl

theorem proxyReading_eq_none {s : State} {a : Addr}
    (unread : (s.row a).role = .sensor → freshChannel s a = none) : proxyReading s a = none := by
  unfold proxyReading
  split
  · next sensor => rw [unread sensor]
  · rfl

theorem proxyLevel_of_synced {s : State} {a : Addr} (good : s.isLum a = true ∧ (s.lum a).health = .good)
    (synced : (s.lum a).shadow = .synced) : proxyLevel s a = some (bytes16 (s.lum a).sent ++ [1]) := by
  simp only [proxyLevel, if_pos good, synced]
  rfl

theorem proxyLevel_of_settling {s : State} {a : Addr} (good : s.isLum a = true ∧ (s.lum a).health = .good)
    (settling : (s.lum a).shadow = .pending ∨ (s.lum a).shadow = .inFlight) :
    proxyLevel s a = some (bytes16 (s.lum a).output ++ [3]) := by
  simp only [proxyLevel, if_pos good]
  obtain pending | flight := settling
  · rw [pending]
    rfl
  · rw [flight]
    rfl

theorem proxyLevel_eq_none {s : State} {a : Addr}
    (unknown : s.isLum a = false ∨ (s.lum a).health = .fault ∨ (s.lum a).shadow = .unknown) : proxyLevel s a = none := by
  unfold proxyLevel
  dsimp only
  split
  · next good =>
    obtain other | fault | unknown := unknown
    · rw [good.1] at other
      cases other
    · rw [good.2] at fault
      cases fault
    · rw [unknown]
  · rfl

theorem takeQuery_of_proxy {s : State} {a : Addr} {item : Byte} {payload : List Byte}
    (proxied : proxyAnswer s a item = some payload) (extra : List Byte) :
    takeQuery a item extra s = answerWith ⟨.reply, s.segmentByte, BitVec.ofNat 8 a.val, payload⟩ s := by
  simp only [takeQuery, proxied]

theorem takeQuery_of_none {s : State} {a : Addr} {item : Byte} (none : proxyAnswer s a item = none)
    (extra : List Byte) :
    takeQuery a item extra s = defer ⟨.query, s.segmentByte, BitVec.ofNat 8 a.val, item :: extra⟩ s := by
  simp only [takeQuery, none]

/-- A query without a proxy answer is deferred (R134). -/
theorem takeQuery_deferredAs {s : State} {a : Addr} {item : Byte} (none : proxyAnswer s a item = none)
    (extra : List Byte) :
    State.DeferredAs ⟨.query, s.segmentByte, BitVec.ofNat 8 a.val, item :: extra⟩ s (takeQuery a item extra s) := by
  rw [takeQuery_of_none none]
  exact defer_deferredAs _ s

/-- Settles O35: by item, with the proxy answers case by case. -/
theorem queriesAreAnsweredOrDeferred : Obligations.QueriesAreAnsweredOrDeferred := by
  refine ⟨fun after a extra s => ⟨fun ⟨luminaire, good, synced⟩ => ?synced, fun ⟨luminaire, good, settling⟩ => ?settling,
    fun other => ⟨_, rfl, takeQuery_deferredAs (item := 1) (proxyLevel_eq_none other) extra⟩⟩,
    fun after a item extra s => ⟨fun c sensor names least => ?reading, fun other => ⟨_, rfl, ?unread⟩,
      fun notLevel notReading => ⟨_, rfl, ?item⟩⟩⟩
  case synced =>
    exact congrArg (fun u => Host.Outcome.next (arbitrate u))
      (takeQuery_of_proxy (item := 1) (proxyLevel_of_synced ⟨luminaire, good⟩ synced) extra)
  case settling =>
    exact congrArg (fun u => Host.Outcome.next (arbitrate u))
      (takeQuery_of_proxy (item := 1) (proxyLevel_of_settling ⟨luminaire, good⟩ settling) extra)
  case reading =>
    exact congrArg (fun u => Host.Outcome.next (arbitrate u))
      (takeQuery_of_proxy (item := 8) (proxyReading_of_fresh sensor (freshChannel_of_least names least)) extra)
  case unread =>
    refine takeQuery_deferredAs (item := 8) (proxyReading_eq_none fun sensor => ?_) extra
    obtain otherRole | none := other
    · exact absurd sensor otherRole
    · exact freshChannel_eq_none none
  case item =>
    refine takeQuery_deferredAs ?_ extra
    rw [proxyAnswer, if_neg notLevel, if_neg notReading]

/-! ## A deadline (O36) -/

/-- A tagged entry has waited to its deadline, in terms of the clock (R134, R139). -/
theorem expired_iff (now : Clock) (t : Tag) (e : FwdEntry) :
    FwdEntry.expired now t e = true ↔ e.tag = some t ∧ e.onRow = false ∧
      ∃ d, e.deadline = some d ∧ 500 ≤ min (now - (d - 500)).toNat 2147483648 := by
  have reached : ∀ d, deadlineReached now d = true ↔ 500 ≤ min (now - (d - 500)).toNat 2147483648 := fun d =>
    decide_eq_true_iff
  unfold FwdEntry.expired
  rw [Bool.and_eq_true, Bool.and_eq_true, beq_iff_eq, Bool.not_eq_true', and_assoc]
  refine and_congr_right fun _ => and_congr_right fun _ => ?_
  cases e.deadline with
  | none => simp
  | some d => simp [reached]

/-- Settles O36: the first entry at its deadline leaves, wherever it stands. -/
theorem waitingEntryLeavesAtItsDeadline : Obligations.WaitingEntryLeavesAtItsDeadline := by
  intro after tag s
  show (_ → Host.Outcome.next (arbitrate (expire tag (passTime after s))) = _) ∧ (∀ before e rest, _ → _ → _ →
    Host.Outcome.next (arbitrate (expire tag (passTime after s))) = _)
  generalize passTime after s = v
  refine ⟨fun none => congrArg (fun u => Host.Outcome.next (arbitrate u)) ?_,
    fun before e rest queue none due => congrArg (fun u => Host.Outcome.next (arbitrate u)) ?_⟩
  · have nothing : v.forward.find? (FwdEntry.expired v.clock tag) = .none :=
      List.find?_eq_none.mpr fun e member fits => none e member ((expired_iff v.clock tag e).mp fits)
    rw [expire, nothing]
  · have waiting : ∀ x ∈ before, ¬ FwdEntry.expired v.clock tag x = true := fun x member fits =>
      none x member ((expired_iff v.clock tag x).mp fits)
    have fits : FwdEntry.expired v.clock tag e = true := (expired_iff v.clock tag e).mpr due
    have found : v.forward.find? (FwdEntry.expired v.clock tag) = some e := by
      rw [queue, List.find?_append, List.find?_eq_none.mpr waiting, List.find?_cons_of_pos fits]
      rfl
    have left : v.forward.eraseP (FwdEntry.expired v.clock tag) = before ++ rest := by
      rw [queue, List.eraseP_append_right _ waiting, List.eraseP_cons_of_pos fits]
    simp only [expire, found, left, endTagged, due.1]

end Sys2Proof.Machine

namespace Sys2Proof.Machine

/-! ## The choice of the arbiter (O37) -/

/-- A scan that yields is one whose first query is not urgent (R119). -/
def State.Yields (s : State) : Prop := s.scan.urgent = false ∧ s.scan.lastQueried = none

theorem scanYields_iff (s : State) : scanYields s = true ↔ s.Yields := by
  rw [scanYields, Bool.and_eq_true, Bool.not_eq_true', Option.isNone_iff_eq_none]
  exact Iff.rfl

theorem scanOffered_iff (s : State) :
    scanOffered s = true ↔ s.scan.state = .scanning ∧ s.scan.onRow = false ∧ s.scan.next ≠ none := by
  rw [scanOffered, Bool.and_eq_true, Bool.and_eq_true, beq_iff_eq, Bool.not_eq_true', Option.isSome_iff_ne_none,
    and_assoc]

theorem ranking_of_starved {s : State} (starved : s.starvation = 6 ∧ scanOffered s = true) :
    ranking s = [.c, .a, .b, .d, .e, .f] := if_pos starved

theorem ranking_of_urgent {s : State} (fed : ¬ (s.starvation = 6 ∧ scanOffered s = true))
    (offered : scanOffered s = true) (urgent : s.scan.urgent = true) : ranking s = [.a, .c, .b, .d, .e, .f] :=
  (if_neg fed).trans (if_pos ⟨offered, urgent⟩)

/-- While the scan yields, the lower-turn flag decides between C, and E and F (R119). -/
theorem ranking_of_yields {s : State} (fed : ¬ (s.starvation = 6 ∧ scanOffered s = true))
    (offered : scanOffered s = true) (yields : s.Yields) :
    ranking s = if s.lowerTurn = true then [.a, .b, .d, .c, .e, .f] else [.a, .b, .d, .e, .f, .c] := by
  have calm : ¬ (scanOffered s = true ∧ s.scan.urgent = true) := fun urgent => by
    rw [yields.1] at urgent
    exact absurd urgent.2 nofun
  exact (if_neg fed).trans ((if_neg calm).trans (if_pos ⟨offered, (scanYields_iff s).mpr yields⟩))

/-- In every other case the classes rank in their order (R118). -/
theorem ranking_of_plain {s : State} (fed : ¬ (s.starvation = 6 ∧ scanOffered s = true))
    (calm : ¬ (scanOffered s = true ∧ s.scan.urgent = true)) (settled : ¬ (scanOffered s = true ∧ s.Yields)) :
    ranking s = [.a, .b, .c, .d, .e, .f] := by
  rw [← scanYields_iff] at settled
  exact (if_neg fed).trans ((if_neg calm).trans (if_neg settled))

/-- Without starvation class A ranks first, and class B second unless an urgent scan is offered. -/
theorem ranking_head {s : State} (fed : ¬ (s.starvation = 6 ∧ scanOffered s = true)) :
    ∃ rest, ranking s = .a :: rest ∧ (¬ (scanOffered s = true ∧ s.scan.urgent = true) → ∃ rest', rest = .b :: rest') := by
  by_cases urgent : scanOffered s = true ∧ s.scan.urgent = true
  · exact ⟨_, ranking_of_urgent fed urgent.1 urgent.2, fun calm => absurd urgent calm⟩
  · by_cases yields : scanOffered s = true ∧ s.Yields
    · refine ⟨_, ranking_of_yields fed yields.1 yields.2 |>.trans (apply_ite _ _ _ _).symm, fun _ => ?_⟩
      split <;> exact ⟨_, rfl⟩
    · exact ⟨_, ranking_of_plain fed urgent yields, fun _ => ⟨_, rfl⟩⟩

/-- With neither A nor B, C before D unless the scan yields, and then the lower-turn flag decides (R118, R119). -/
theorem chosen_below {s : State} (fed : ¬ (s.starvation = 6 ∧ scanOffered s = true)) (noA : ¬ stands s .a = true)
    (noB : ¬ stands s .b = true) :
    (scanOffered s = true → ¬ s.Yields → chosen s = some .c) ∧
    ((scanOffered s = true → s.Yields) → chosen s = [.d, .c, .e, .f].find? (stands s) ∧ s.lowerTurn = true ∨
      chosen s = [.d, .e, .f, .c].find? (stands s) ∧ (scanOffered s = true → s.lowerTurn = false)) := by
  refine ⟨fun offered settled => ?_, fun yields => ?_⟩
  · have stand : stands s .c = true := offered
    unfold chosen
    by_cases urgent : s.scan.urgent = true
    · simp [ranking_of_urgent fed offered urgent, noA, stand]
    · simp [ranking_of_plain fed (fun h => urgent h.2) fun h => settled h.2, noA, noB, stand]
  · unfold chosen
    by_cases offered : scanOffered s = true
    · rw [ranking_of_yields fed offered (yields offered)]
      by_cases turn : s.lowerTurn = true
      · rw [if_pos turn, List.find?_cons_of_neg noA, List.find?_cons_of_neg noB]
        exact .inl ⟨rfl, turn⟩
      · rw [if_neg turn, List.find?_cons_of_neg noA, List.find?_cons_of_neg noB]
        exact .inr ⟨rfl, fun _ => Bool.eq_false_iff.mpr turn⟩
    · have noC : ¬ stands s .c = true := offered
      have plain := ranking_of_plain fed (fun h => offered h.1) fun h => offered h.1
      refine .inr ⟨?_, fun h => absurd h offered⟩
      rw [plain]
      simp [List.find?_cons, noA, noB, noC]

/-! ### When a candidate stands -/

theorem anyUrgent_iff (s : State) : anyUrgent s = true ↔ ∃ a ∈ s.pendingList, (s.lum a).urgent = true :=
  List.any_eq_true

theorem anyUrgent_eq_false (s : State) : anyUrgent s = false ↔ ∀ a ∈ s.pendingList, (s.lum a).urgent = false := by
  rw [anyUrgent, List.any_eq_false]
  exact forall₂_congr fun a _ => Bool.eq_false_iff.symm

theorem forwardOffered_iff (s : State) :
    forwardOffered s = true ↔ ∃ e q, s.forward = e :: q ∧ e.onRow = false := by
  unfold forwardOffered
  cases s.forward with
  | nil => simp
  | cons e q => simp

theorem isSynced_iff (s : State) (a : Addr) : s.isSynced a = true ↔ s.isLum a = true ∧ (s.lum a).shadow = .synced := by
  rw [State.isSynced, Bool.and_eq_true, beq_iff_eq]

theorem probeAllows_iff (l : Lum) (probe : Fin 8) : probeAllows l probe = true ↔ l.health = .good ∨ probe = 0 := by
  rw [probeAllows, Bool.or_eq_true, beq_iff_eq, beq_iff_eq]

theorem alignQualifies_iff (s : State) (a : Addr) :
    alignQualifies s a = true ↔ s.isLum a = true ∧ (s.lum a).aligned = false ∧
      ((s.lum a).health = .good ∨ s.verify.probe = 0) := by
  rw [alignQualifies, Bool.and_eq_true, Bool.and_eq_true, Bool.not_eq_true', probeAllows_iff, and_assoc]

theorem any_addresses_iff (p : Addr → Bool) : addresses.any p = true ↔ ∃ a, p a = true := by
  rw [List.any_eq_true]
  exact ⟨fun ⟨a, _, fits⟩ => ⟨a, fits⟩, fun ⟨a, fits⟩ => ⟨a, mem_addresses a, fits⟩⟩

theorem alignHoldOver_iff (s : State) :
    alignHoldOver s = true ↔ ∀ t, s.verify.alignFail = some t → s.settings.verifyInterval ≤ t.interval s.clock := by
  unfold alignHoldOver verifyIntervalOver
  cases s.verify.alignFail <;> simp

/-- Settles O37: the choice, and when each candidate stands. -/
theorem arbiterTakesTheHighestCandidate : Obligations.ArbiterTakesTheHighestCandidate := by
  refine ⟨fun s => ⟨fun nothing => List.find?_eq_none.mpr fun k _ => nothing k, fun starved c => ?_, fun fed =>
    ⟨fun a => ?_, fun a urgent c => ?_, fun a calm b => ?_, fun a b c settled => (chosen_below fed a b).1 c settled,
      fun a b d yields => ?_, fun a b d c yields turn => ?_, fun a b d e turn => ?_, fun a b d e f turn => ?_,
      fun a b d e f c => ?_⟩⟩,
    fun s => ⟨anyUrgent_iff s, forwardOffered_iff s, scanOffered_iff s, ?_, ?_, ?_⟩⟩
  · rw [chosen, ranking_of_starved ⟨starved, c⟩, List.find?_cons_of_pos c]
  · obtain ⟨rest, order, -⟩ := ranking_head fed
    rw [chosen, order, List.find?_cons_of_pos a]
  · rw [chosen, ranking_of_urgent fed c urgent, List.find?_cons_of_neg a, List.find?_cons_of_pos c]
  · obtain ⟨rest, order, second⟩ := ranking_head fed
    obtain ⟨rest', rfl⟩ := second fun h => calm h.symm
    rw [chosen, order, List.find?_cons_of_neg a, List.find?_cons_of_pos b]
  · obtain ⟨same, -⟩ | ⟨same, -⟩ := (chosen_below fed a b).2 yields
    · rw [same, List.find?_cons_of_pos d]
    · rw [same, List.find?_cons_of_pos d]
  · obtain ⟨same, -⟩ | ⟨same, off⟩ := (chosen_below fed a b).2 fun _ => yields
    · rw [same, List.find?_cons_of_neg d, List.find?_cons_of_pos c]
    · rw [off c] at turn
      cases turn
  · obtain ⟨same, on⟩ | ⟨same, off⟩ := (chosen_below fed a b).2 fun c => (turn c).1
    · have c : ¬ stands s .c = true := fun c => by
        rw [(turn c).2] at on
        cases on
      rw [same, List.find?_cons_of_neg d, List.find?_cons_of_neg c, List.find?_cons_of_pos e]
    · rw [same, List.find?_cons_of_neg d, List.find?_cons_of_pos e]
  · obtain ⟨same, on⟩ | ⟨same, off⟩ := (chosen_below fed a b).2 fun c => (turn c).1
    · have c : ¬ stands s .c = true := fun c => by
        rw [(turn c).2] at on
        cases on
      rw [same, List.find?_cons_of_neg d, List.find?_cons_of_neg c, List.find?_cons_of_neg e, List.find?_cons_of_pos f]
    · rw [same, List.find?_cons_of_neg d, List.find?_cons_of_neg e, List.find?_cons_of_pos f]
  · by_cases yields : s.Yields
    · obtain ⟨same, -⟩ | ⟨same, -⟩ := (chosen_below fed a b).2 fun _ => yields
      · rw [same, List.find?_cons_of_neg d, List.find?_cons_of_pos c]
      · rw [same, List.find?_cons_of_neg d, List.find?_cons_of_neg e, List.find?_cons_of_neg f, List.find?_cons_of_pos c]
    · exact (chosen_below fed a b).1 c yields
  · show (!s.pendingList.isEmpty && !anyUrgent s) = true ↔ _
    rw [Bool.and_eq_true, Bool.not_eq_true', Bool.not_eq_true', anyUrgent_eq_false, List.isEmpty_eq_false_iff]
  · show alignOffered s = true ↔ _
    rw [alignOffered, Bool.and_eq_true, Bool.and_eq_true, alignHoldOver_iff, any_addresses_iff, and_assoc]
    simp only [alignQualifies_iff]
  · show verifyOffered s = true ↔ _
    rw [verifyOffered, Bool.and_eq_true, Bool.and_eq_true, verifyIntervalOver, decide_eq_true_iff, any_addresses_iff,
      and_assoc]
    simp only [isSynced_iff]

end Sys2Proof.Machine

namespace Sys2Proof.Machine

/-! ## Level frames (O38) -/

/-- The covered entries leave the pending list (R31). -/
theorem foldl_startCovered_pendingList (level : Nat) (as : List Addr) (s : State) (nodup : s.pendingList.Nodup) :
    (as.foldl (startCovered level) s).pendingList = s.pendingList.filter fun a => !as.contains a := by
  induction as generalizing s with
  | nil => exact (List.filter_eq_self.mpr fun _ _ => rfl).symm
  | cons a as ih =>
    have left : (startCovered level s a).pendingList = s.pendingList.filter (· != a) := nodup.erase_eq_filter a
    rw [List.foldl_cons, ih _ (left ▸ nodup.filter _), left, List.filter_filter]
    refine List.filter_congr fun b _ => ?_
    rw [List.contains_cons, Bool.not_or, Bool.and_comm]
    rfl

/-- The oldest urgent entry, else the oldest, is the head (R121). -/
theorem levelHead_of_first {s : State} {head : Addr}
    (first : ∃ before rest, s.pendingList = before ++ head :: rest ∧
      (((s.lum head).urgent = true ∧ ∀ b ∈ before, (s.lum b).urgent = false) ∨
        (before = [] ∧ ∀ b ∈ s.pendingList, (s.lum b).urgent = false))) : levelHead s = some head := by
  obtain ⟨before, rest, list, ⟨urgent, calm⟩ | ⟨rfl, calm⟩⟩ := first
  · have found : s.pendingList.find? (fun a => (s.lum a).urgent) = some head := by
      rw [list, List.find?_append, List.find?_eq_none.mpr fun b member => Bool.eq_false_iff.mp (calm b member),
        List.find?_cons_of_pos (p := fun a => (s.lum a).urgent) (a := head) urgent]
      rfl
    simp only [levelHead, found]
  · have found : s.pendingList.find? (fun a => (s.lum a).urgent) = none :=
      List.find?_eq_none.mpr fun b member => Bool.eq_false_iff.mp (calm b member)
    rw [levelHead, found, list]
    rfl

theorem mem_members (s : State) (z : ZoneId) (a : Addr) :
    a ∈ s.members z ↔ s.isLum a = true ∧ (s.row a).zone = some z := by
  rw [State.members, List.mem_filter, Bool.and_eq_true, beq_iff_eq]
  exact and_iff_right (mem_addresses a)

theorem members_ascending (s : State) (z : ZoneId) : (s.members z).Pairwise (· < ·) :=
  (List.pairwise_lt_finRange 64).filter _

/-- A zone frame can be formed (R122): at least two members, each aligned and PENDING with the head's output and fade. -/
def State.Together (s : State) (head : Addr) (z : ZoneId) : Prop :=
  (∃ a b, a ≠ b ∧ s.isLum a = true ∧ (s.row a).zone = some z ∧ s.isLum b = true ∧ (s.row b).zone = some z) ∧
  ∀ a, s.isLum a = true → (s.row a).zone = some z →
    (s.lum a).aligned = true ∧ (s.lum a).shadow = .pending ∧ (s.lum a).output = (s.lum head).output ∧
      (s.lum a).emissionFade = (s.lum head).emissionFade

theorem sharesFrame_iff (s : State) (head a : Addr) :
    sharesFrame s head a = true ↔ (s.lum a).aligned = true ∧ (s.lum a).shadow = .pending ∧
      (s.lum a).output = (s.lum head).output ∧ (s.lum a).emissionFade = (s.lum head).emissionFade := by
  rw [sharesFrame, Bool.and_eq_true, Bool.and_eq_true, Bool.and_eq_true, beq_iff_eq, beq_iff_eq, beq_iff_eq,
    and_assoc, and_assoc]

theorem together_iff (s : State) (head : Addr) (z : ZoneId) :
    s.Together head z ↔ 2 ≤ (s.members z).length ∧ (s.members z).all (sharesFrame s head) = true := by
  rw [two_le_length_iff (members_nodup s z), List.all_eq_true]
  simp only [mem_members, sharesFrame_iff, and_imp, and_assoc]
  exact Iff.rfl

theorem zoneCover_of_together {s : State} {head : Addr} {z : ZoneId} (zoned : (s.row head).zone = some z)
    (together : s.Together head z) : zoneCover s head = some (z, s.members z) := by
  simp only [zoneCover, zoned]
  exact if_pos ((together_iff s head z).mp together)

theorem zoneCover_eq_none {s : State} {head : Addr}
    (apart : ∀ z, (s.row head).zone = some z → ¬ s.Together head z) : zoneCover s head = none := by
  unfold zoneCover
  split
  · rfl
  · next z zoned => exact if_neg fun h => apart z zoned ((together_iff s head z).mpr h)

/-- A level frame as it starts (R31, R122 to R124). -/
theorem emit_spec {s : State} (nodup : s.pendingList.Nodup) (unit : Byte) (head : Addr) {covered : List Addr}
    (once : covered.Nodup) :
    emit unit head covered s =
      { s with
        rowTx := .onRow ⟨⟨.setLevel, s.segmentByte, unit,
          bytes16 (s.lum head).output ++ [byte (s.lum head).emissionFade.val]⟩, .level, s.portTime⟩
        emission := some ⟨covered, (s.lum head).output⟩
        lums := (emit unit head covered s).lums
        pendingList := s.pendingList.filter fun a => !covered.contains a } ∧
    ∀ a, (emit unit head covered s).lum a =
      if a ∈ covered then
        { s.lum a with shadow := .inFlight, sent := (s.lum head).output, sentValid := true, urgent := false }
      else s.lum a := by
  unfold emit
  dsimp only
  have list := foldl_startCovered_pendingList (s.lum head).output covered
    { startRow (levelFrame s unit head) .level s with emission := some ⟨covered, (s.lum head).output⟩ } nodup
  have frame := RowMapFrame.foldl (startCovered_frame (s.lum head).output) covered
    { startRow (levelFrame s unit head) .level s with emission := some ⟨covered, (s.lum head).output⟩ }
  refine ⟨?_, fun a => foldl_startCovered_lum _ covered once _ a⟩
  unfold RowMapFrame at frame
  rw [list] at frame
  exact frame

/-- Settles O38: the frame covers its zone's members or its head alone. -/
theorem levelFrameCoversItsEntries : Obligations.LevelFrameCoversItsEntries := by
  intro s head first rowMap
  have isHead := levelHead_of_first first
  by_cases shared : ∃ z, (s.row head).zone = some z ∧ s.Together head z
  · obtain ⟨z, zoned, together⟩ := shared
    have taken : takeLevel s = emit (BitVec.ofNat 8 (64 + z.val)) head (s.members z) s := by
      simp only [takeLevel, isHead, zoneCover_of_together zoned together]
    obtain ⟨frame, entries⟩ := emit_spec rowMap.1 (BitVec.ofNat 8 (64 + z.val)) head (members_nodup s z)
    refine ⟨BitVec.ofNat 8 (64 + z.val), s.members z, .inl ⟨z, zoned, together, ?_, mem_members s z⟩, members_ascending s z, ?_, fun a => ?_⟩
    · rw [BitVec.toNat_ofNat]
      omega
    · rw [taken]
      exact frame
    · rw [taken]
      exact entries a
  · have apart : ∀ z, (s.row head).zone = some z → ¬ s.Together head z := fun z zoned together =>
      shared ⟨z, zoned, together⟩
    have taken : takeLevel s = emit (BitVec.ofNat 8 head.val) head [head] s := by
      simp only [takeLevel, isHead, zoneCover_eq_none apart]
    obtain ⟨frame, entries⟩ := emit_spec rowMap.1 (BitVec.ofNat 8 head.val) head (List.pairwise_singleton _ head)
    refine ⟨BitVec.ofNat 8 head.val, [head], .inr ⟨apart, ?_, rfl⟩, List.pairwise_singleton _ _, ?_, fun a => ?_⟩
    · rw [BitVec.toNat_ofNat]
      omega
    · rw [taken]
      exact frame
    · rw [taken]
      exact entries a

end Sys2Proof.Machine

namespace Sys2Proof.Machine

/-! ## The frames of the other classes (O39) -/

theorem isSetGroups_iff (f : Frame) :
    f.isSetGroups = true ↔ f.kind = .deviceConfig ∧ f.payload.head? = some 1 := by
  rw [Frame.isSetGroups, Bool.and_eq_true, beq_iff_eq, beq_iff_eq]

/-- The forwarded frame starts as it stands in the queue (R116, R136). -/
theorem takeForward_of_cons {s : State} {e : FwdEntry} {q : List FwdEntry} (head : s.forward = e :: q) :
    takeForward s = if e.frame.isSetGroups = true then
        clearAligned e.frame (startRow e.frame .forward { s with forward := { e with onRow := true } :: q })
      else startRow e.frame .forward { s with forward := { e with onRow := true } :: q } := by
  simp only [takeForward, head]

/-- What class B starts, and the alignment a SET GROUPS clears (R108, R116, R136). -/
theorem takeForward_spec {s : State} {e : FwdEntry} {q : List FwdEntry} (head : s.forward = e :: q) :
    takeForward s =
      { s with
        forward := { e with onRow := true } :: q
        rowTx := .onRow ⟨e.frame, .forward, s.portTime⟩
        lums := (takeForward s).lums } ∧
    ∀ a, (takeForward s).lum a =
      if e.frame.kind = .deviceConfig ∧ e.frame.payload.head? = some 1 ∧ s.isLum a = true ∧
          (64 ≤ e.frame.unit.toNat ∨ e.frame.unit.toNat = a.val)
      then { s.lum a with aligned := false } else s.lum a := by
  rw [takeForward_of_cons head]
  by_cases groups : e.frame.isSetGroups = true
  · obtain ⟨kind, code⟩ := (isSetGroups_iff e.frame).mp groups
    rw [if_pos groups]
    refine ⟨by simp only [clearAligned, startRow], fun a => ?_⟩
    rw [clearAligned_lum]
    refine ite_congr_iff ⟨fun ⟨luminaire, reached⟩ => ⟨kind, code, luminaire, reached⟩,
      fun ⟨_, _, luminaire, reached⟩ => ⟨luminaire, reached⟩⟩ rfl rfl
  · rw [if_neg groups]
    refine ⟨rfl, fun a => (if_neg fun ⟨kind, code, _⟩ => ?_).symm⟩
    exact groups ((isSetGroups_iff e.frame).mpr ⟨kind, code⟩)

theorem takeScan_of_next {s : State} {c : ChannelId} {u : Addr} (next : s.scan.next = some c)
    (unit : (s.channelConfig c).unit = some u) :
    takeScan s = startRow ⟨.query, s.segmentByte, BitVec.ofNat 8 u.val, [8]⟩ (.scan c)
      { s with
        scan := { s.scan with next := none, lastQueried := some c, onRow := true, disregard := false }
        starvation := 0 } := by
  simp only [takeScan, next, unit]

/-! ### The searches (R146, R151) -/

/-- The address a number of places after another, 63 being followed by 0. -/
def addrAfter (a : Addr) (k : Nat) : Addr := Fin.ofNat 64 (a.val + k)

theorem addrAfter_zero (a : Addr) : addrAfter a 0 = a := Fin.ext (Nat.mod_eq_of_lt a.isLt)

theorem addrAfter_of_succ (a : Addr) (k : Nat) : addrAfter (Addr.succ a) k = addrAfter a (k + 1) := by
  refine Fin.ext ?_
  show ((a.val + 1) % 64 + k) % 64 = (a.val + (k + 1)) % 64
  omega

theorem succ_addrAfter (a : Addr) (k : Nat) : Addr.succ (addrAfter a k) = addrAfter a (k + 1) := by
  refine Fin.ext ?_
  show ((a.val + k) % 64 + 1) % 64 = (a.val + (k + 1)) % 64
  omega

/-- Every address stands within 64 places of any other. -/
theorem exists_addrAfter (a b : Addr) : ∃ k, k < 64 ∧ b = addrAfter a k := by
  refine ⟨(b.val + (64 - a.val)) % 64, Nat.mod_lt _ (by omega), Fin.ext ?_⟩
  show b.val = (a.val + (b.val + (64 - a.val)) % 64) % 64
  omega

/-- The alignment search finds the first entry that qualifies from its start on (R151). -/
theorem alignSearch_of_first {s : State} {k : Nat} {fuel : Nat} (within : k < fuel) (a : Addr)
    (qualifies : alignQualifies s (addrAfter a k) = true)
    (first : ∀ j, j < k → alignQualifies s (addrAfter a j) = false) : alignSearch s fuel a = some (addrAfter a k) := by
  induction k generalizing a fuel with
  | zero =>
    obtain ⟨fuel, rfl⟩ := Nat.exists_eq_succ_of_ne_zero (Nat.ne_of_gt within)
    rw [addrAfter_zero] at qualifies ⊢
    exact if_pos qualifies
  | succ k ih =>
    obtain ⟨fuel, rfl⟩ := Nat.exists_eq_succ_of_ne_zero (Nat.ne_of_gt (Nat.zero_lt_of_lt within))
    have notHere := first 0 (Nat.succ_pos k)
    rw [addrAfter_zero] at notHere
    rw [← addrAfter_of_succ] at qualifies ⊢
    refine (if_neg (Bool.eq_false_iff.mp notHere)).trans (ih (Nat.lt_of_succ_lt_succ within) _ qualifies fun j before => ?_)
    rw [addrAfter_of_succ]
    exact first (j + 1) (Nat.succ_lt_succ before)

/-- While a class E candidate stands the search succeeds (R151). -/
theorem alignSearch_of_offered {s : State} (offered : alignOffered s = true) :
    ∃ k, k < 64 ∧ alignQualifies s (addrAfter s.verify.alignPointer k) = true ∧
      (∀ j, j < k → alignQualifies s (addrAfter s.verify.alignPointer j) = false) ∧
      alignSearch s 64 s.verify.alignPointer = some (addrAfter s.verify.alignPointer k) := by
  obtain ⟨a, qualifies⟩ := (any_addresses_iff _).mp (Bool.and_eq_true_iff.mp offered).2
  obtain ⟨k, within, rfl⟩ := exists_addrAfter s.verify.alignPointer a
  obtain ⟨m, before, found, least⟩ :=
    exists_least (p := fun k => alignQualifies s (addrAfter s.verify.alignPointer k) = true) qualifies
  have bound : m < 64 := Nat.lt_of_le_of_lt before within
  have first : ∀ j, j < m → alignQualifies s (addrAfter s.verify.alignPointer j) = false := fun j earlier =>
    Bool.eq_false_iff.mpr (least j earlier)
  exact ⟨m, bound, found, first, alignSearch_of_first bound _ found first⟩

/-- The probe round a number of places after an address: each wrap advances it (R146). -/
def probeRound (a : Addr) (probe : Fin 8) (k : Nat) : Fin 8 := Fin.ofNat 8 (probe.val + (a.val + k) / 64)

theorem probeRound_zero (a : Addr) (probe : Fin 8) : probeRound a probe 0 = probe := by
  refine Fin.ext ?_
  show (probe.val + (a.val + 0) / 64) % 8 = probe.val
  omega

theorem probeAfter_val (a : Addr) (probe : Fin 8) :
    (probeAfter a probe).val = (probe.val + (a.val + 1) / 64) % 8 := by
  unfold probeAfter
  split
  · next wraps =>
    show (probe.val + 1) % 8 = _
    rw [wraps]
  · next before => omega

theorem probeRound_succ (a : Addr) (probe : Fin 8) (k : Nat) :
    probeRound (Addr.succ a) (probeAfter a probe) k = probeRound a probe (k + 1) := by
  refine Fin.ext ?_
  show ((probeAfter a probe).val + ((a.val + 1) % 64 + k) / 64) % 8 = (probe.val + (a.val + (k + 1)) / 64) % 8
  rw [probeAfter_val]
  omega

theorem probeAfter_after (a : Addr) (probe : Fin 8) (k : Nat) :
    probeAfter (addrAfter a k) (probeRound a probe k) = probeRound a probe (k + 1) := by
  refine Fin.ext ?_
  rw [probeAfter_val]
  show ((probe.val + (a.val + k) / 64) % 8 + ((a.val + k) % 64 + 1) / 64) % 8 = (probe.val + (a.val + (k + 1)) / 64) % 8
  omega

/-- The verify sweep visits the entry a number of places after its pointer (R146). -/
def visited (s : State) (a : Addr) (probe : Fin 8) (k : Nat) : Bool :=
  s.isSynced (addrAfter a k) && probeAllows (s.lum (addrAfter a k)) (probeRound a probe k)

theorem visited_succ (s : State) (a : Addr) (probe : Fin 8) (k : Nat) :
    visited s (Addr.succ a) (probeAfter a probe) k = visited s a probe (k + 1) := by
  simp only [visited, addrAfter_of_succ, probeRound_succ]

/-- The verify search finds the first entry the sweep visits, and its probe round (R146). -/
theorem verifySearch_of_first {s : State} {k : Nat} {fuel : Nat} (within : k < fuel) (a : Addr) (probe : Fin 8)
    (visits : visited s a probe k = true) (first : ∀ j, j < k → visited s a probe j = false) :
    verifySearch s fuel a probe = some (addrAfter a k, probeRound a probe k) := by
  induction k generalizing a probe fuel with
  | zero =>
    obtain ⟨fuel, rfl⟩ := Nat.exists_eq_succ_of_ne_zero (Nat.ne_of_gt within)
    rw [visited, addrAfter_zero, probeRound_zero] at visits
    rw [addrAfter_zero, probeRound_zero]
    exact if_pos visits
  | succ k ih =>
    obtain ⟨fuel, rfl⟩ := Nat.exists_eq_succ_of_ne_zero (Nat.ne_of_gt (Nat.zero_lt_of_lt within))
    have notHere := first 0 (Nat.succ_pos k)
    rw [visited, addrAfter_zero, probeRound_zero] at notHere
    rw [← visited_succ] at visits
    rw [← addrAfter_of_succ, ← probeRound_succ]
    refine (if_neg (Bool.eq_false_iff.mp notHere)).trans
      (ih (Nat.lt_of_succ_lt_succ within) _ _ visits fun j before => ?_)
    rw [visited_succ]
    exact first (j + 1) (Nat.succ_lt_succ before)

/-- While an entry is SYNCED the sweep visits one before it has wrapped eight times: in probe round 0 it passes over none (R146). -/
theorem exists_visited {s : State} {b : Addr} (synced : s.isSynced b = true) (a : Addr) (probe : Fin 8) :
    ∃ k, k < 577 ∧ visited s a probe k = true := by
  have reach : addrAfter a (b.val + 64 * (8 - probe.val) - a.val) = b := by
    refine Fin.ext ?_
    show (a.val + (b.val + 64 * (8 - probe.val) - a.val)) % 64 = b.val
    omega
  have round : probeRound a probe (b.val + 64 * (8 - probe.val) - a.val) = 0 := by
    refine Fin.ext ?_
    show (probe.val + (a.val + (b.val + 64 * (8 - probe.val) - a.val)) / 64) % 8 = 0
    omega
  refine ⟨b.val + 64 * (8 - probe.val) - a.val, by omega, ?_⟩
  rw [visited, reach, round, synced]
  exact (probeAllows_iff _ _).mpr (.inr rfl)

/-- While a class F candidate stands the search succeeds (R145, R146). -/
theorem verifySearch_of_offered {s : State} (offered : verifyOffered s = true) :
    ∃ k, visited s s.verify.pointer s.verify.probe k = true ∧
      (∀ j, j < k → visited s s.verify.pointer s.verify.probe j = false) ∧
      verifySearch s verifySearchLimit s.verify.pointer s.verify.probe =
        some (addrAfter s.verify.pointer k, probeRound s.verify.pointer s.verify.probe k) := by
  obtain ⟨b, synced⟩ := (any_addresses_iff _).mp (Bool.and_eq_true_iff.mp offered).2
  obtain ⟨k, within, visits⟩ := exists_visited synced s.verify.pointer s.verify.probe
  obtain ⟨m, before, found, least⟩ :=
    exists_least (p := fun k => visited s s.verify.pointer s.verify.probe k = true) visits
  have bound : m < 577 := Nat.lt_of_le_of_lt before within
  have first : ∀ j, j < m → visited s s.verify.pointer s.verify.probe j = false := fun j earlier =>
    Bool.eq_false_iff.mpr (least j earlier)
  exact ⟨m, found, first, verifySearch_of_first bound _ _ found first⟩

theorem visited_iff (s : State) (a : Addr) (probe : Fin 8) (k : Nat) :
    visited s a probe k = true ↔ s.isSynced (Fin.ofNat 64 (a.val + k)) = true ∧
      ((s.lum (Fin.ofNat 64 (a.val + k))).health = .good ∨ (probe.val + (a.val + k) / 64) % 8 = 0) := by
  have round : probeRound a probe k = 0 ↔ (probe.val + (a.val + k) / 64) % 8 = 0 := Fin.ext_iff
  rw [visited, Bool.and_eq_true, probeAllows_iff, round]
  exact Iff.rfl

theorem takeAlignment_of_found {s : State} {a : Addr} (found : alignSearch s 64 s.verify.alignPointer = some a) :
    takeAlignment s = startRow
      ⟨.deviceConfig, s.segmentByte, BitVec.ofNat 8 a.val, 1 :: bytes16 (alignMask (s.row a).zone)⟩ .alignment
      { s with
        lowerTurn := true
        verify := { s.verify with
          alignPointer := Addr.succ a, alignRecord := some ⟨a, (s.row a).zone, false⟩ } } := by
  rw [takeAlignment, found]

theorem takeVerify_of_found {s : State} {a : Addr} {probe : Fin 8}
    (found : verifySearch s verifySearchLimit s.verify.pointer s.verify.probe = some (a, probe)) :
    takeVerify s = startRow ⟨.query, s.segmentByte, BitVec.ofNat 8 a.val, [1]⟩ .verify
      { s with
        lowerTurn := true
        verify := { s.verify with
          pointer := Addr.succ a
          probe := probeAfter a probe
          last := s.stamp
          record := some ⟨a, (s.lum a).sent⟩ } } := by
  rw [takeVerify, found]

/-- Settles O39: the frame of each class, with the first entry its search finds. -/
theorem otherFramesStartAsFormed : Obligations.OtherFramesStartAsFormed := by
  intro s
  refine ⟨fun e q head => takeForward_spec head, fun c u next unit => takeScan_of_next next unit,
    fun offered => ?alignment, fun offered => ?verify⟩
  case alignment =>
    obtain ⟨k, within, qualifies, first, found⟩ := alignSearch_of_offered offered
    refine ⟨(addrAfter s.verify.alignPointer k).val, k, (addrAfter s.verify.alignPointer k).isLt, within, rfl, qualifies,
      first, ?_⟩
    rw [takeAlignment_of_found found]
    rfl
  case verify =>
    obtain ⟨k, visits, first, found⟩ := verifySearch_of_offered offered
    refine ⟨k, (visited_iff s _ _ k).mp visits, fun j before visits => ?_, ?_⟩
    · have not := first j before
      rw [(visited_iff s _ _ j).mpr visits] at not
      cases not
    · have round : probeRound s.verify.pointer s.verify.probe (k + 1) =
          Fin.ofNat 8 ((s.verify.probe.val + (s.verify.pointer.val + (k + 1)) / 64) % 8) :=
        Fin.ext (Nat.mod_mod _ _).symm
      rw [takeVerify_of_found found, succ_addrAfter, probeAfter_after, round]
      rfl

/-! ## When the arbiter chooses (O40) -/

/-- What no frame that starts changes of an entry: its level, its output, its fade and its health. -/
def LevelsKept (s t : State) : Prop :=
  ∀ a, (t.lum a).base = (s.lum a).base ∧ (t.lum a).output = (s.lum a).output ∧
    (t.lum a).baseFade = (s.lum a).baseFade ∧ (t.lum a).health = (s.lum a).health

theorem LevelsKept.same {s t u : State} (h : LevelsKept s t) (lums : ∀ a, u.lum a = t.lum a) : LevelsKept s u :=
  fun a => by rw [lums a]; exact h a

theorem emit_lum (unit : Byte) (head : Addr) {covered : List Addr} (once : covered.Nodup) (s : State) (a : Addr) :
    (emit unit head covered s).lum a =
      if a ∈ covered then
        { s.lum a with shadow := .inFlight, sent := (s.lum head).output, sentValid := true, urgent := false }
      else s.lum a :=
  foldl_startCovered_lum _ covered once _ a

theorem arbitrate_levelsKept (s : State) : LevelsKept s (arbitrate s) := by
  refine arbitrate_induction (Inv := LevelsKept s) (fun t h => h.same fun _ => rfl)
    (fun t unit head covered _ once _ h a => ?level) (fun t u e q _ _ aligned h a => ?forward)
    (fun t c f _ _ h => h.same fun _ => rfl) (fun t f v _ _ _ h => h.same fun _ => rfl)
    (fun t f v _ _ _ h => h.same fun _ => rfl) s (fun a => ⟨rfl, rfl, rfl, rfl⟩)
  case level =>
    rw [emit_lum unit head once]
    split
    · exact h a
    · exact h a
  case forward =>
    obtain ⟨-, entries⟩ := aligned
    obtain ⟨value, entry⟩ := entries a
    rw [entry]
    exact h a

theorem emit_starvation (unit : Byte) (head : Addr) (covered : List Addr) (s : State) :
    (emit unit head covered s).starvation = s.starvation := by
  have frame := RowMapFrame.foldl (startCovered_frame (s.lum head).output) covered
    { startRow (levelFrame s unit head) .level s with emission := some ⟨covered, (s.lum head).output⟩ }
  unfold RowMapFrame at frame
  unfold emit
  dsimp only
  rw [frame]
  rfl

theorem takeLevel_starvation (s : State) : (takeLevel s).starvation = s.starvation := by
  obtain same | ⟨unit, head, covered, -, -, emitted⟩ := takeLevel_cases s
  · rw [same]
  · rw [emitted, emit_starvation]

theorem takeForward_starvation (s : State) : (takeForward s).starvation = s.starvation := by
  obtain same | ⟨e, q, -, frame, -⟩ := takeForward_cases s
  · rw [same]
  · rw [frame]
    rfl

theorem countStarvation_eq (s : State) :
    countStarvation s =
      if stands s .c = true then { s with starvation := min 6 (s.starvation + 1) } else s := rfl

theorem countStarvation_starvation (s : State) :
    (countStarvation s).starvation = if stands s .c = true then min 6 (s.starvation + 1) else s.starvation := by
  rw [countStarvation_eq]
  split <;> rfl

/-- What a taken class leaves of the starvation count (R120). -/
theorem take_starvation (s : State) (k : CandidateClass) :
    (k = .a ∨ k = .b → (take s k).starvation =
      if stands s .c = true then min 6 (s.starvation + 1) else s.starvation) ∧
    (k = .d ∨ k = .e ∨ k = .f → (take s k).starvation = s.starvation) := by
  refine ⟨?_, ?_⟩
  · rintro (rfl | rfl)
    · exact (takeLevel_starvation _).trans (countStarvation_starvation s)
    · exact (takeForward_starvation _).trans (countStarvation_starvation s)
  · rintro (rfl | rfl | rfl)
    · exact takeLevel_starvation s
    · show (takeAlignment s).starvation = s.starvation
      obtain same | ⟨a, started⟩ := takeAlignment_cases s
      · rw [same]
      · rw [started]
        rfl
    · show (takeVerify s).starvation = s.starvation
      obtain same | ⟨a, probe, started⟩ := takeVerify_cases s
      · rw [same]
      · rw [started]
        rfl

/-- The gap is over 4 ms after the last row activity, on a line free of foreign activity (R12, R113). -/
theorem endGap_eq (v : State) :
    endGap v = if v.rowTx = .gap ∧ v.rowForeign = false ∧ 4000 ≤ v.portTime - v.rowActivity then
      arbitrate { v with rowTx := .ready } else v := by
  have elapsed : gapOver v = true ↔ v.rowTx = .gap ∧ v.rowForeign = false ∧ 4000 ≤ v.portTime - v.rowActivity := by
    rw [gapOver, Bool.and_eq_true, Bool.and_eq_true, beq_iff_eq, Bool.not_eq_true', decide_eq_true_iff, and_assoc]
    exact Iff.rfl
  exact ite_congr_iff elapsed rfl rfl

/-- Settles O40: the choice in READY, what it leaves, and the commands that only let the arbiter choose. -/
theorem arbiterChoosesInReady : Obligations.ArbiterChoosesInReady := by
  refine ⟨fun s => ⟨fun idle => ?idle, fun k ready choice => arbitrate_of_chosen s k ready choice, arbitrate_frame s,
    arbitrate_levelsKept s, take_starvation s, rfl, rfl, rfl, rfl, rfl, rfl⟩, fun after s => ⟨?gap, rfl, rfl⟩⟩
  case idle =>
    obtain busy | none := idle
    · exact arbitrate_of_not_ready s busy
    · exact arbitrate_of_none s none
  case gap => exact congrArg Host.Outcome.next (endGap_eq _)

end Sys2Proof.Machine

namespace Sys2Proof.Machine

/-! ## The end of a frame and of its window (R4, R9, R12) -/

theorem opensWindow_iff (f : Frame) :
    f.opensWindow = true ↔ (f.kind = .query ∨ f.kind = .deviceConfig) ∧ f.unit.toNat < 64 := by
  rw [Frame.opensWindow, Bool.and_eq_true, Bool.or_eq_true, beq_iff_eq, beq_iff_eq, decide_eq_true_iff]

theorem endTime_eq (f : RowFrame) : f.endTime = f.since + (3 + 8 * (4 + f.frame.payload.length)) * 208 := rfl

theorem frameCompletes_iff (s : State) (f : RowFrame) :
    frameCompletes s f = true ↔ ¬ f.frame.opensWindow = true ∧ f.endTime ≤ s.portTime := by
  rw [frameCompletes, Bool.and_eq_true, Bool.not_eq_true', frameOver_iff, Bool.eq_false_iff]

theorem windowCloses_iff (s : State) (f : RowFrame) (w : WindowReply) :
    windowCloses s f w = true ↔ f.frame.opensWindow = true ∧ f.endTime ≤ s.portTime ∧ inWindow s f w = true := by
  rw [windowCloses, Bool.and_eq_true, Bool.and_eq_true, frameOver_iff, and_assoc]

theorem inWindow_silence (s : State) (f : RowFrame) :
    inWindow s f .silence = true ↔ f.endTime + 20000 ≤ s.portTime := decide_eq_true_iff

theorem inWindow_frame (s : State) (f : RowFrame) (rx : Reception) (lasted : Nat) :
    inWindow s f (.frame rx lasted) = true ↔
      f.endTime + lasted ≤ s.portTime ∧ s.portTime ≤ f.endTime + lasted + 20000 := decide_eq_true_iff

theorem rowFrameOf_of_owner {s : State} {f : RowFrame} {o : RowOwner} (row : s.rowTx = .onRow f) (own : f.owner = o) :
    rowFrameOf s o = some f := rowFrameOf_eq_some.mpr ⟨row, own⟩

/-! ## The end of a level frame (O41) -/

theorem completeCovered_pendingList (level : Nat) (s : State) (a : Addr) :
    (completeCovered level s a).pendingList = s.pendingList ++ [a].filter fun b =>
      s.isLum b && ((s.lum b).shadow == .inFlight && (s.lum b).output != level) := by
  unfold completeCovered
  by_cases settles : s.isLum a = true ∧ (s.lum a).shadow = .inFlight
  · rw [if_pos settles]
    obtain ⟨luminaire, shadow⟩ := settles
    by_cases reached : (s.lum a).output = level
    · simp [luminaire, shadow, reached]
    · simp [luminaire, shadow, reached, joinPending]
  · have unsettled : ¬ (s.isLum a && ((s.lum a).shadow == .inFlight && (s.lum a).output != level)) = true := by
      rw [Bool.and_eq_true, Bool.and_eq_true, beq_iff_eq]
      exact fun ⟨luminaire, shadow, _⟩ => settles ⟨luminaire, shadow⟩
    have alone : ([a].filter fun b => s.isLum b && ((s.lum b).shadow == .inFlight && (s.lum b).output != level)) = [] :=
      List.filter_eq_nil_iff.mpr fun b member => by rwa [List.mem_singleton.mp member]
    rw [if_neg settles, alone, List.append_nil]

/-- The entries whose output has changed since the frame join the list in the order of the record (R32). -/
theorem foldl_completeCovered_pendingList (level : Nat) {as : List Addr} (nodup : as.Nodup) (s : State) :
    (as.foldl (completeCovered level) s).pendingList = s.pendingList ++ as.filter fun b =>
      s.isLum b && ((s.lum b).shadow == .inFlight && (s.lum b).output != level) := by
  induction as generalizing s with
  | nil => simp
  | cons a as ih =>
    obtain ⟨absent, nodup⟩ := List.nodup_cons.mp nodup
    have same : ∀ b ∈ as, (completeCovered level s a).lum b = s.lum b := fun b member => by
      rw [completeCovered_lum, if_neg fun ⟨e, _⟩ => absent (e ▸ member)]
    have rest : (as.filter fun b => (completeCovered level s a).isLum b &&
          (((completeCovered level s a).lum b).shadow == .inFlight && ((completeCovered level s a).lum b).output != level)) =
        as.filter fun b => s.isLum b && ((s.lum b).shadow == .inFlight && (s.lum b).output != level) :=
      List.filter_congr fun b member => by rw [same b member, (completeCovered_frame level s a).isLum b]
    rw [List.foldl_cons, ih nodup, rest, completeCovered_pendingList, List.append_assoc, ← List.filter_append]
    rfl

theorem completeLevel_of_row {s : State} {f : RowFrame} (row : s.rowTx = .onRow f) (own : f.owner = .level) :
    completeLevel s = if frameCompletes s f then finishLevel s else s := by
  rw [completeLevel, rowFrameOf_of_owner row own]

theorem finishLevel_of_some {s : State} {m : Emission} (record : s.emission = some m) :
    finishLevel s = enterGap { m.covered.foldl (completeCovered m.level) s with emission := none } := by
  simp only [finishLevel, record]

/-- Settles O41: the covered entries one after the other, and the list they join. -/
theorem levelFrameCompletionSettlesEntries : Obligations.LevelFrameCompletionSettlesEntries := by
  intro after s f m v row own kind record nodup
  have shut : ¬ f.frame.opensWindow = true := fun opens => by
    rw [opensWindow_iff, kind] at opens
    exact opens.1.elim nofun nofun
  have completes := frameCompletes_iff v f
  refine ⟨fun running => congrArg Host.Outcome.next ?_, fun elapsed => ⟨finishLevel v, congrArg Host.Outcome.next ?_, ?_⟩⟩
  · show completeLevel v = v
    rw [completeLevel_of_row row own, if_neg fun complete => running (completes.mp complete).2]
  · show completeLevel v = finishLevel v
    rw [completeLevel_of_row row own, if_pos (completes.mpr ⟨shut, elapsed⟩)]
  · have frame := RowMapFrame.foldl (completeCovered_frame m.level) m.covered v
    have list := foldl_completeCovered_pendingList m.level nodup v
    have entries : ∀ a, (finishLevel v).lum a = (m.covered.foldl (completeCovered m.level) v).lum a := fun a => by
      rw [finishLevel_of_some record]
      rfl
    rw [finishLevel_of_some record]
    refine ⟨?_, list, fun a => ?_⟩
    · unfold RowMapFrame at frame
      generalize m.covered.foldl (completeCovered m.level) v = u at frame ⊢
      rw [frame]
      rfl
    · rw [finishLevel_of_some record] at entries
      rw [entries, foldl_completeCovered_lum m.level m.covered nodup, completeCovered_lum]
      refine ⟨fun ⟨member, luminaire, flight⟩ reached => ?_, fun ⟨member, luminaire, flight⟩ apart => ?_, fun other => ?_⟩
      · rw [if_pos member, if_pos ⟨rfl, luminaire, flight⟩, if_pos reached]
      · rw [if_pos member, if_pos ⟨rfl, luminaire, flight⟩, if_neg apart]
      · by_cases member : a ∈ m.covered
        · rw [if_pos member, if_neg fun h => other ⟨member, h.2⟩]
        · rw [if_neg member]

/-! ## The end of a forwarded frame (O42) -/

/-- A window's outcome counts the same before and after the entry leaves and the gap begins. -/
theorem enterGap_popForward_countOutcome {s : State} {e : FwdEntry} {q : List FwdEntry} (head : s.forward = e :: q)
    (o : WindowOutcome) :
    enterGap (popForward (countOutcome o s)) =
      countOutcome o { s with forward := q, rowTx := .gap, rowActivity := s.portTime } := by
  have tail : s.forward.tail = q := by rw [head]; rfl
  cases o <;> rw [← tail] <;> rfl

theorem enterGap_popForward {s : State} {e : FwdEntry} {q : List FwdEntry} (head : s.forward = e :: q) :
    enterGap (popForward s) = { s with forward := q, rowTx := .gap, rowActivity := s.portTime } := by
  have tail : s.forward.tail = q := by rw [head]; rfl
  rw [← tail]
  rfl

theorem completeForward_of_row {s : State} {f : RowFrame} (row : s.rowTx = .onRow f) (own : f.owner = .forward) :
    completeForward s = if frameCompletes s f then enterGap (popForward s) else s := by
  rw [completeForward, rowFrameOf_of_owner row own]

theorem closeUntagged_of_row {s : State} {f : RowFrame} {e : FwdEntry} {q : List FwdEntry} (w : WindowReply)
    (row : s.rowTx = .onRow f) (own : f.owner = .forward) (head : s.forward = e :: q) :
    closeUntagged w s = if windowCloses s f w = true ∧ e.tag = none then
      enterGap (popForward (countOutcome (windowOutcome f.frame w) s)) else s := by
  simp only [closeUntagged, rowFrameOf_of_owner row own, head]

theorem closeDeferred_of_row {s : State} {f : RowFrame} {e : FwdEntry} {q : List FwdEntry} (w : WindowReply)
    (row : s.rowTx = .onRow f) (own : f.owner = .forward) (head : s.forward = e :: q) :
    closeDeferred w s = if windowCloses s f w = true ∧ e.tag ≠ none then
      deferredOutcome e (windowOutcome f.frame w)
        (enterGap (popForward (countOutcome (windowOutcome f.frame w) s))) else s := by
  simp only [closeDeferred, rowFrameOf_of_owner row own, head]

theorem endTagged_of_tag {e : FwdEntry} {t : Tag} (tag : e.tag = some t) (o : DeferralOutcome) (noisy : Bool)
    (data : List Byte) (s : State) : endTagged e o noisy data s = offerDeferred ⟨t, o, noisy, data, e.unit⟩ s := by
  rw [endTagged, tag]

/-- Settles O42: a frame without a window, an untagged one and a tagged one. -/
theorem forwardedFrameEndsItsTurn : Obligations.ForwardedFrameEndsItsTurn := by
  intro after w s f e q v row own head
  dsimp only
  have closes : windowCloses v f w = true ↔ ((f.frame.kind = .query ∨ f.frame.kind = .deviceConfig) ∧
      f.frame.unit.toNat < 64) ∧ f.since + (3 + 8 * (4 + f.frame.payload.length)) * 208 ≤ v.portTime ∧
      (match w with
       | .silence => f.since + (3 + 8 * (4 + f.frame.payload.length)) * 208 + 20000 ≤ v.portTime
       | .frame _ lasted => f.since + (3 + 8 * (4 + f.frame.payload.length)) * 208 + lasted ≤ v.portTime ∧
         v.portTime ≤ f.since + (3 + 8 * (4 + f.frame.payload.length)) * 208 + lasted + 20000) := by
    rw [windowCloses_iff, opensWindow_iff, endTime_eq]
    cases w with
    | silence => rw [inWindow_silence, endTime_eq]
    | frame rx lasted => rw [inWindow_frame, endTime_eq]
  have completes := frameCompletes_iff v f
  rw [opensWindow_iff, endTime_eq] at completes
  have complete : exec (.forwardFrameComplete after) s = .next (completeForward v) := rfl
  have untagged : exec (.untaggedWindowClose after w) s = .next (closeUntagged w v) := rfl
  have tagged : exec (.deferredQueryOutcome after w) s = .next (closeDeferred w v) := rfl
  rw [complete, untagged, tagged, completeForward_of_row row own, closeUntagged_of_row w row own head,
    closeDeferred_of_row w row own head, enterGap_popForward head, enterGap_popForward_countOutcome head]
  refine ⟨fun shut ended => ?_, fun runs => ?_, fun closed none => ?_, fun other => ?_, fun other => ?_,
    fun t closed tag => ?_⟩
  · rw [if_pos (completes.mpr ⟨shut, ended⟩)]
  · rw [if_neg fun done => ?_]
    obtain ⟨shut, ended⟩ := completes.mp done
    exact runs.elim shut (Nat.not_lt.mpr ended)
  · rw [if_pos ⟨closes.mpr closed, none⟩]
  · rw [if_neg fun h => other.elim (fun open_ => open_ (closes.mp h.1)) fun tag => tag h.2]
  · rw [if_neg fun h => other.elim (fun open_ => open_ (closes.mp h.1)) fun none => h.2 none]
  · rw [if_pos ⟨closes.mpr closed, by rw [tag]; nofun⟩]
    refine congrArg Host.Outcome.next ?_
    cases windowOutcome f.frame w <;> exact endTagged_of_tag tag _ _ _ _

end Sys2Proof.Machine

namespace Sys2Proof.Machine

/-! ## What a received frame is (R5, R11, R173, R175) -/

/-- A frame of at least four bytes, with its last byte set apart (R4, R5, R173). -/
theorem checkFrame_append (h segment unit c : Byte) (payload : List Byte) (broken noise : Bool) :
    checkFrame ⟨h :: segment :: unit :: payload ++ [c], broken, noise⟩ =
      if broken = true ∨ 12 < h.toNat % 16 ∨ payload.length ≠ h.toNat % 16 then .framing
      else if c ≠ crc8 (h :: segment :: unit :: payload) then .check
      else .good (h.toNat / 16) segment unit payload := by
  have length : (payload ++ [c]).length ≠ h.toNat % 16 + 1 ↔ payload.length ≠ h.toNat % 16 := by
    rw [List.length_append, List.length_singleton]
    omega
  show (if broken = true ∨ 12 < h.toNat % 16 ∨ (payload ++ [c]).length ≠ h.toNat % 16 + 1 then Checked.framing
    else if crc8 (h :: segment :: unit :: (payload ++ [c]).dropLast) ≠ (payload ++ [c]).getLastD 0 then .check
    else .good (h.toNat / 16) segment unit (payload ++ [c]).dropLast) = _
  rw [List.dropLast_concat, List.getLastD_concat]
  simp only [length, ne_comm (a := c)]

theorem checkFrame_of_short {bytes : List Byte} (short : bytes.length < 4) (broken noise : Bool) :
    checkFrame ⟨bytes, broken, noise⟩ = .framing := by
  match bytes, short with
  | [], _ => rfl
  | [_], _ => rfl
  | [_, _], _ => rfl
  | [h, _, _], _ => exact if_pos (.inr (.inr (by simp)))

theorem kindOfCode_eq_reply (n : Nat) : kindOfCode n = some .reply ↔ n = 3 := by
  refine ⟨fun kind => ?_, fun code => code ▸ rfl⟩
  unfold kindOfCode at kind
  split at kind <;> first | rfl | cases kind

/-- What the row reply must hold at least, by the request's item or sub-kind (R175). -/
theorem requiredReply_eq (request : Frame) :
    requiredReply request = match request.kind with
       | .deviceConfig => 1
       | .query => if request.payload.head? = some 1 then 2 else if request.payload.head? = some 8 then 3 else 0
       | _ => 0 := by
  unfold requiredReply
  cases request.kind with
  | query =>
    cases request.payload with
    | nil => rfl
    | cons b bs =>
      show (match b.toNat with
        | 1 => 2
        | 8 => 3
        | _ => 0) = if some b = some 1 then 2 else if some b = some 8 then 3 else 0
      by_cases one : b = 1
      · rw [one]
        rfl
      · by_cases eight : b = 8
        · rw [eight]
          rfl
        · rw [if_neg fun h => one (Option.some_inj.mp h), if_neg fun h => eight (Option.some_inj.mp h)]
          split
          · next code => exact absurd (BitVec.eq_of_toNat_eq code) one
          · next code => exact absurd (BitVec.eq_of_toNat_eq code) eight
          · rfl
  | _ => rfl

theorem windowOutcome_of_framing {rx : Reception} (fault : checkFrame rx = .framing) (request : Frame) (lasted : Nat) :
    windowOutcome request (.frame rx lasted) = .badFraming := by
  simp only [windowOutcome, fault]

theorem windowOutcome_of_check {rx : Reception} (fault : checkFrame rx = .check) (request : Frame) (lasted : Nat) :
    windowOutcome request (.frame rx lasted) = .badCheck := by
  simp only [windowOutcome, fault]

theorem windowOutcome_of_good {rx : Reception} {kind : Nat} {segment unit : Byte} {payload : List Byte}
    (whole : checkFrame rx = .good kind segment unit payload) (request : Frame) (lasted : Nat) :
    windowOutcome request (.frame rx lasted) =
      if kind = 3 ∧ unit = request.unit ∧ requiredReply request ≤ payload.length then
        (if rx.noise then .noisy payload else .clean payload)
      else .badFraming := by
  simp only [windowOutcome, whole, ne_eq, kindOfCode_eq_reply]
  by_cases reply : kind = 3
  · by_cases asked : unit = request.unit
    · by_cases long : requiredReply request ≤ payload.length
      · rw [if_neg (not_not_intro reply), if_neg (not_not_intro asked), if_neg (Nat.not_lt.mpr long),
          if_pos (c := kind = 3 ∧ unit = request.unit ∧ requiredReply request ≤ payload.length) ⟨reply, asked, long⟩]
      · rw [if_neg (not_not_intro reply), if_neg (not_not_intro asked), if_pos (Nat.lt_of_not_le long),
          if_neg fun h => long h.2.2]
    · rw [if_neg (not_not_intro reply), if_pos asked, if_neg fun h => asked h.2.1]
  · rw [if_pos reply, if_neg fun h => reply h.1]

/-- The high nibble of a header is the kind code (R4). -/
theorem header_kind {f : Frame} (short : f.payload.length ≤ 12) :
    (byte (kindCode f.kind * 16 + f.payload.length)).toNat / 16 = kindCode f.kind := by
  have code : kindCode f.kind ≤ 8 := by cases f.kind <;> decide
  rw [byte, BitVec.toNat_ofNat]
  omega

theorem checkFrame_bytes {f : Frame} (short : f.payload.length ≤ 12) (noise : Bool) :
    checkFrame ⟨f.bytes, false, noise⟩ = .good (kindCode f.kind) f.segment f.unit f.payload := by
  rw [Frame.bytes, checkFrame_body_append short, if_pos rfl, header_kind short]

theorem kindCode_eq_three (k : FrameKind) : kindCode k = 3 ↔ k = .reply := by cases k <;> decide

/-! ## Strays (R11, R113) -/

theorem strayBegins_powerless {s : State} (row : s.rowTx = .powerless) : strayBegins s = { s with rowForeign := true } := by
  simp only [strayBegins, State.transmitter, row]

theorem strayBegins_gap {s : State} (row : s.rowTx = .gap ∨ s.rowTx = .ready) :
    strayBegins s = { s with rowForeign := true, rowTx := .gap } := by
  obtain row | row := row
  · simp only [strayBegins, State.transmitter, row]
  · simp only [strayBegins, State.transmitter, row]

theorem strayEnds_powerless {s : State} (row : s.rowTx = .powerless) : strayEnds s = { s with rowForeign := false } := by
  simp only [strayEnds, State.transmitter, row]

theorem strayEnds_gap {s : State} (row : s.rowTx = .gap ∨ s.rowTx = .ready) :
    strayEnds s = countStray { s with rowTx := .gap } := by
  obtain row | row := row
  · simp only [strayEnds, State.transmitter, row]
    rw [← row]
  · simp only [strayEnds, State.transmitter, row]

/-- With a frame on the row, whether it awaits a reply decides (R113). -/
theorem transmitter_onRow {s : State} {f : RowFrame} (row : s.rowTx = .onRow f) :
    s.transmitter = if f.frame.opensWindow = true ∧ f.endTime ≤ s.portTime then .awaitingReply else .sending := by
  simp only [State.transmitter, row, Bool.and_eq_true, frameOver_iff]

theorem strayBegins_sending {s : State} (sending : s.transmitter = .sending) :
    strayBegins s = { s with rowForeign := true } := by
  simp only [strayBegins, sending]

theorem strayBegins_awaiting {s : State} (awaiting : s.transmitter = .awaitingReply) : strayBegins s = s := by
  simp only [strayBegins, awaiting]

theorem strayEnds_sending {s : State} (sending : s.transmitter = .sending) : strayEnds s = countStray s := by
  simp only [strayEnds, sending]

theorem strayEnds_awaiting {s : State} (awaiting : s.transmitter = .awaitingReply) :
    strayEnds s = if s.rowForeign then countStray s else s := by
  simp only [strayEnds, awaiting]

theorem rowStrayFrame_begins (after : Nat) (s : State) :
    exec (.rowStrayFrame after false) s = .next (strayBegins (passTime after s)) := rfl

theorem rowStrayFrame_ends (after : Nat) (s : State) :
    exec (.rowStrayFrame after true) s = .next (strayEnds (passTime after s)) := rfl

/-- Settles O43: the window's times, its outcome by what arrived, and activity of another party. -/
theorem windowOutcomesAndStrays : Obligations.WindowOutcomesAndStrays := by
  refine ⟨fun s f rx lasted => ⟨?silence, ?frame⟩, fun request reply noise rx lasted s => ⟨rfl, fun short => ?reply,
    fun fault => windowOutcome_of_framing fault request lasted, fun fault => windowOutcome_of_check fault request lasted,
    fun p => rfl, rfl, rfl, fun p => rfl, rfl⟩,
    fun request h segment unit c payload few broken noise lasted => ⟨fun short => ?_, fun broke => ?_,
      fun ⟨unbroken, fits, length⟩ wrong => ?_, fun ⟨unbroken, fits, length⟩ right other => ?_⟩,
    fun after s => ?strays⟩
  case silence => rw [windowCloses_silence, opensWindow_iff, endTime_eq]; exact Iff.rfl
  case frame =>
    rw [windowCloses_frame, opensWindow_iff, Nat.add_right_comm f.endTime lasted, endTime_eq]
    exact Iff.rfl
  case reply =>
    rw [windowOutcome_of_good (checkFrame_bytes short noise), requiredReply_eq]
    exact ite_congr_iff (and_congr_left' (kindCode_eq_three reply.kind)) rfl rfl
  · exact windowOutcome_of_framing (checkFrame_of_short short broken noise) request lasted
  · refine windowOutcome_of_framing ?_ request lasted
    rw [checkFrame_append, if_pos]
    refine Classical.byContradiction fun sound => ?_
    obtain ⟨whole, short, length⟩ := not_or.mp sound |>.imp_right not_or.mp
    exact broke ⟨Bool.eq_false_iff.mpr whole, Nat.not_lt.mp short, Classical.not_not.mp length⟩
  · refine windowOutcome_of_check ?_ request lasted
    rw [checkFrame_append, if_neg (by rw [unbroken]; simp; omega), if_pos wrong]
  · have whole : checkFrame ⟨h :: segment :: unit :: payload ++ [c], broken, noise⟩ =
        .good (h.toNat / 16) segment unit payload := by
      rw [checkFrame_append, if_neg (by rw [unbroken]; simp; omega), if_neg (not_not_intro right)]
    rw [windowOutcome_of_good whole, if_neg fun h => other h.1]
  case strays =>
    rw [rowStrayFrame_begins, rowStrayFrame_ends]
    generalize passTime after s = v
    refine ⟨fun row => ?_, fun row => ?_, fun f row => ⟨fun sending => ?_, fun awaiting => ?_⟩⟩
    · rw [strayBegins_powerless row, strayEnds_powerless row]
      exact ⟨rfl, rfl⟩
    · rw [strayBegins_gap row, strayEnds_gap row]
      exact ⟨rfl, rfl⟩
    · have state := (transmitter_onRow row).trans (if_neg sending)
      rw [strayBegins_sending state, strayEnds_sending state]
      exact ⟨rfl, rfl⟩
    · have state := (transmitter_onRow row).trans (if_pos awaiting)
      rw [strayBegins_awaiting state, strayEnds_awaiting state]
      exact ⟨rfl, rfl⟩

end Sys2Proof.Machine

namespace Sys2Proof.Machine

/-! ## The close of a verify query's window (O44) -/

/-- An entry is stored, and joins the pending list if it is PENDING now. -/
def State.putLum (s : State) (a : Addr) (l : Lum) : State :=
  { s.setLum a l with
    pendingList := if l.shadow = .pending then s.pendingList ++ [a] else s.pendingList }

theorem putLum_lum (s : State) (a : Addr) (l : Lum) : (s.putLum a l).lum a = l := lum_setLum_self s a l

theorem putLum_of_settled {l : Lum} (settled : l.shadow ≠ .pending) (s : State) (a : Addr) :
    s.putLum a l = s.setLum a l := by
  rw [State.putLum, if_neg settled]
  rfl

theorem setLum_putLum {l m : Lum} (same : m.shadow = l.shadow) (s : State) (a : Addr) :
    (s.putLum a l).setLum a m = s.putLum a m := by
  have twice : (s.setLum a l).setLum a m = s.setLum a m := setLum_setLum s a l m
  unfold State.putLum
  rw [same]
  change ({ (s.setLum a l).setLum a m with
    pendingList := if l.shadow = .pending then s.pendingList ++ [a] else s.pendingList } : State) = _
  rw [twice]

/-- A count that has reached 3 makes a GOOD entry FAULT (R149). -/
theorem judgeFault_putLum (r : VerifyRecord) (cause : FaultCause) (count : Nat) (s : State) (l : Lum) :
    judgeFault r cause count (s.putLum r.addr l) =
      if decide (l.health = .good ∧ 3 ≤ count) = true then
        raise (.luminaireFault r.addr cause r.level) (s.putLum r.addr { l with health := .fault })
      else s.putLum r.addr l := by
  have setFault : (s.putLum r.addr l).setLum r.addr { l with health := .fault } =
      s.putLum r.addr { l with health := .fault } := setLum_putLum (l := l) (m := { l with health := .fault }) rfl s r.addr
  rw [judgeFault, putLum_lum, setFault]
  exact ite_congr_iff decide_eq_true_iff.symm rfl rfl

theorem verifyConfirmed_eq (r : VerifyRecord) {s : State} (synced : (s.lum r.addr).shadow = .synced) :
    verifyConfirmed r s =
      if (s.lum r.addr).health = .fault then
        raise (.luminaireRecovered r.addr r.level)
          (s.putLum r.addr { s.lum r.addr with mismatches := 0, misses := 0, health := .good })
      else s.putLum r.addr { s.lum r.addr with mismatches := 0, misses := 0 } := by
  have settled : ({ s.lum r.addr with mismatches := 0, misses := 0 } : Lum).shadow ≠ .pending := by
    show (s.lum r.addr).shadow ≠ _
    rw [synced]
    nofun
  rw [putLum_of_settled settled, putLum_of_settled (l := { s.lum r.addr with mismatches := 0, misses := 0, health := .good })
    settled]
  rfl

/-- A SYNCED entry after a mismatch (R33, R148). -/
def State.mismatched (s : State) (a : Addr) : Lum :=
  { s.lum a with
    mismatches := min 3 ((s.lum a).mismatches + 1), misses := 0
    shadow := .pending, sentValid := false, urgent := false, emissionFade := s.updateFade a }

theorem verifyMismatch_eq (r : VerifyRecord) (s : State) :
    verifyMismatch r s = judgeFault r .mismatch (min 3 ((s.lum r.addr).mismatches + 1))
      (s.putLum r.addr (s.mismatched r.addr)) := by
  have fade : (s.setLum r.addr { s.lum r.addr with
      mismatches := min 3 ((s.lum r.addr).mismatches + 1), misses := 0 }).updateFade r.addr = s.updateFade r.addr := by
    unfold State.updateFade
    rw [lum_setLum_self]
    rfl
  refine congrArg (judgeFault r .mismatch (min 3 ((s.lum r.addr).mismatches + 1))) ?_
  unfold reportMismatch
  rw [fade, lum_setLum_self, setLum_setLum]
  rfl

theorem verifyMiss_eq (r : VerifyRecord) {s : State} (synced : (s.lum r.addr).shadow = .synced) :
    verifyMiss r s = judgeFault r .miss (min 3 ((s.lum r.addr).misses + 1))
      (s.putLum r.addr { s.lum r.addr with misses := min 3 ((s.lum r.addr).misses + 1) }) := by
  have settled : ({ s.lum r.addr with misses := min 3 ((s.lum r.addr).misses + 1) } : Lum).shadow ≠ .pending := by
    show (s.lum r.addr).shadow ≠ _
    rw [synced]
    nofun
  rw [putLum_of_settled settled]
  rfl

theorem verifyApplies_iff (s : State) (r : VerifyRecord) :
    verifyApplies s r = true ↔ s.isLum r.addr = true ∧ (s.lum r.addr).shadow = .synced ∧
      (s.lum r.addr).sentValid = true ∧ (s.lum r.addr).sent = r.level := by
  rw [verifyApplies, Bool.and_eq_true, Bool.and_eq_true, isSynced_iff, beq_iff_eq, and_assoc, and_assoc]

/-- The state at the close of a verify window: the outcome counted, the gap begun, the record emptied (R22, R147). -/
def verifyClosed (o : WindowOutcome) (v : State) : State :=
  countOutcome o { v with rowTx := .gap, rowActivity := v.portTime, verify := { v.verify with record := none } }

theorem verifyOutcome_closed {v : State} {r : VerifyRecord} (record : v.verify.record = some r) (o : WindowOutcome) :
    verifyOutcome o (enterGap (countOutcome o v)) =
      if verifyApplies (verifyClosed o v) r then applyVerify r o (verifyClosed o v) else verifyClosed o v := by
  have kept : (enterGap (countOutcome o v)).verify.record = some r := by cases o <;> exact record
  have dropped : dropVerifyRecord (enterGap (countOutcome o v)) = verifyClosed o v := by cases o <;> rfl
  rw [verifyOutcome, kept]
  dsimp only
  rw [dropped]

theorem verifyClosed_lum (o : WindowOutcome) (v : State) (a : Addr) : (verifyClosed o v).lum a = v.lum a := by
  cases o <;> rfl

theorem verifyClosed_isLum (o : WindowOutcome) (v : State) (a : Addr) : (verifyClosed o v).isLum a = v.isLum a := by
  cases o <;> rfl

theorem verifyClosed_updateFade (o : WindowOutcome) (v : State) (a : Addr) :
    (verifyClosed o v).updateFade a = v.updateFade a := by
  cases o <;> rfl

theorem closeVerify_of_row {s : State} {f : RowFrame} {w : WindowReply} (row : s.rowTx = .onRow f)
    (own : f.owner = .verify) (closes : windowCloses s f w = true) :
    closeVerify w s = verifyOutcome (windowOutcome f.frame w) (enterGap (countOutcome (windowOutcome f.frame w) s)) := by
  rw [closeVerify, rowFrameOf_of_owner row own]
  exact if_pos closes

/-- Settles O44: by the outcome, when it still applies to the recorded entry. -/
theorem verifyOutcomeSettlesHealth : Obligations.VerifyOutcomeSettlesHealth := by
  intro after w s f r v row own record closes
  have close : exec (.verifyOutcome after w) s = .next
      (if verifyApplies (verifyClosed (windowOutcome f.frame w) v) r then
        applyVerify r (windowOutcome f.frame w) (verifyClosed (windowOutcome f.frame w) v)
      else verifyClosed (windowOutcome f.frame w) v) :=
    congrArg Host.Outcome.next ((closeVerify_of_row row own closes).trans (verifyOutcome_closed record _))
  have lum := verifyClosed_lum (windowOutcome f.frame w) v r.addr
  have applies := verifyApplies_iff (verifyClosed (windowOutcome f.frame w) v) r
  rw [verifyClosed_isLum, lum] at applies
  have answers : ∀ {t}, (verifyApplies (verifyClosed (windowOutcome f.frame w) v) r = true →
      applyVerify r (windowOutcome f.frame w) (verifyClosed (windowOutcome f.frame w) v) = t) →
      v.isLum r.addr = true ∧ (v.lum r.addr).shadow = .synced ∧ (v.lum r.addr).sentValid = true ∧
        (v.lum r.addr).sent = r.level → exec (.verifyOutcome after w) s = .next t := fun does stands => by
    rw [close, if_pos (applies.mpr stands), does (applies.mpr stands)]
  refine ⟨fun not => ?_, fun stands p clean => ⟨fun same => answers (fun _ => ?_) stands,
    fun other => answers (fun _ => ?_) stands⟩, fun stands p noisy => answers (fun _ => ?_) stands,
    fun stands missed => answers (fun _ => ?_) stands⟩
  · rw [close, if_neg fun h => not (applies.mp h)]
    rfl
  · obtain ⟨-, synced, -⟩ := stands
    have confirmed := verifyConfirmed_eq r (lum.symm ▸ synced)
    rw [lum] at confirmed
    rw [clean] at confirmed ⊢
    exact (if_pos same).trans confirmed
  · have mismatch := (verifyMismatch_eq r (verifyClosed (windowOutcome f.frame w) v)).trans
      (judgeFault_putLum _ _ _ _ _)
    unfold State.mismatched at mismatch
    rw [lum, verifyClosed_updateFade] at mismatch
    rw [clean] at mismatch ⊢
    exact (if_neg other).trans mismatch
  · rw [noisy]
    rfl
  · obtain ⟨-, synced, -⟩ := stands
    have miss := (verifyMiss_eq r (lum.symm ▸ synced)).trans (judgeFault_putLum _ _ _ _ _)
    rw [lum] at miss
    have applied : applyVerify r (windowOutcome f.frame w) (verifyClosed (windowOutcome f.frame w) v) =
        verifyMiss r (verifyClosed (windowOutcome f.frame w) v) := by
      obtain none | framing | check := missed
      · rw [none]
        rfl
      · rw [framing]
        rfl
      · rw [check]
        rfl
    exact applied.trans miss

/-! ## The close of an alignment request's window (O45) -/

/-- The state at the close of an alignment window: the outcome counted, the gap begun, the record emptied (R22, R152). -/
def alignClosed (o : WindowOutcome) (v : State) : State :=
  countOutcome o { v with
    rowTx := .gap, rowActivity := v.portTime, verify := { v.verify with alignRecord := none } }

theorem alignApplies_iff (s : State) (r : AlignRecord) :
    alignApplies s r = true ↔ r.disregard = false ∧ s.isLum r.addr = true ∧ (s.row r.addr).zone = r.zone := by
  rw [alignApplies, Bool.and_eq_true, Bool.and_eq_true, Bool.not_eq_true', beq_iff_eq, and_assoc]

theorem alignDone_iff (o : WindowOutcome) : alignDone o = true ↔ ∃ rest, o = .clean (0 :: rest) := by
  cases o with
  | clean p =>
    cases p with
    | nil => simp [alignDone]
    | cons b bs => simp [alignDone]
  | _ => simp [alignDone]

theorem alignOutcome_closed {v : State} {r : AlignRecord} (record : v.verify.alignRecord = some r) (o : WindowOutcome) :
    alignOutcome o (enterGap (countOutcome o v)) =
      if alignApplies v r then
        if alignDone o then
          { (alignClosed o v).setLum r.addr { v.lum r.addr with aligned := true } with
            verify := { (alignClosed o v).verify with alignFail := none } }
        else { alignClosed o v with verify := { (alignClosed o v).verify with alignFail := some ⟨v.clock, false⟩ } }
      else alignClosed o v := by
  have kept : (enterGap (countOutcome o v)).verify.alignRecord = some r := by cases o <;> exact record
  unfold alignOutcome
  rw [kept]
  cases o <;> rfl

theorem closeAlignment_of_row {s : State} {f : RowFrame} {w : WindowReply} (row : s.rowTx = .onRow f)
    (own : f.owner = .alignment) (closes : windowCloses s f w = true) :
    closeAlignment w s =
      alignOutcome (windowOutcome f.frame w) (enterGap (countOutcome (windowOutcome f.frame w) s)) := by
  rw [closeAlignment, rowFrameOf_of_owner row own]
  exact if_pos closes

/-- Settles O45: DONE for the entry as recorded, another outcome for it, and an outcome of no account. -/
theorem alignmentOutcomeSetsAligned : Obligations.AlignmentOutcomeSetsAligned := by
  intro after w s f r v row own record closes
  have close := (closeAlignment_of_row row own closes).trans (alignOutcome_closed record _)
  refine ⟨fun still isDone => congrArg Host.Outcome.next (close.trans ?_),
    fun still notDone => congrArg Host.Outcome.next (close.trans ?_), fun gone => congrArg Host.Outcome.next (close.trans ?_)⟩
  · rw [if_pos ((alignApplies_iff v r).mpr still), if_pos ((alignDone_iff _).mpr isDone)]
    rfl
  · rw [if_pos ((alignApplies_iff v r).mpr still), if_neg fun h => notDone ((alignDone_iff _).mp h)]
    rfl
  · rw [if_neg fun h => gone ((alignApplies_iff v r).mp h)]
    rfl

end Sys2Proof.Machine

namespace Sys2Proof.Machine

/-! ## Channel outcomes (O46) -/

theorem sensorFault_iff (p : List Byte) : sensorFault p = true ↔ (p.getD 2 0).toNat % 2 = 1 := by
  rw [sensorFault, BitVec.getLsbD, Nat.testBit_zero, decide_eq_true_iff]

/-- The relative change, as R61 words it. -/
theorem skyChange_eq (old new : Nat) :
    skyChange old new = (if old ≤ new then new - old else old - new) * 1000 / (if old ≤ 50 then 50 else old) := by
  have change : max new old - min new old = if old ≤ new then new - old else old - new := by
    split <;> omega
  have base : max old 50 = if old ≤ 50 then 50 else old := by
    split <;> omega
  rw [skyChange, change, base]

theorem cleanReply_of_live {v : ChannelStatus} (live : v.health = .fresh ∨ v.health = .suspect) (limit x : Nat)
    (now : Stamp) :
    cleanReply limit x now v = { v with reading := x, lastGood := now, health := .fresh, missCount := 0 } := by
  obtain fresh | suspect := live
  · simp only [cleanReply, fresh]
  · simp only [cleanReply, suspect]

theorem missReply_of_stale {v : ChannelStatus} (stale : v.health = .stale) (limit : Nat) :
    missReply limit v = { v with missCount := min 15 (v.missCount + 1), recoveryCount := 0 } := by
  simp only [missReply, stale, afterMiss, if_true]

theorem afterMiss_of_live {h : ChannelHealth} (live : h ≠ .stale) :
    afterMiss h = if h = .unseen then .unseen else .suspect := by
  cases h with
  | stale => exact absurd rfl live
  | _ => rfl

theorem missReply_of_live {v : ChannelStatus} (live : v.health ≠ .stale) (limit : Nat) :
    missReply limit v = if limit ≤ min 15 (v.missCount + 1) then
        { v with missCount := min 15 (v.missCount + 1), health := .stale, recoveryCount := 0 }
      else { v with
        missCount := min 15 (v.missCount + 1), health := if v.health = .unseen then .unseen else .suspect } := by
  have notStale : afterMiss v.health ≠ .stale := by
    rw [afterMiss_of_live live]
    split <;> nofun
  unfold missReply
  dsimp only
  rw [if_neg notStale, afterMiss_of_live live]

/-- Settles O46: the outcome's value, the health ladder, and the sky transient. -/
theorem channelOutcomes : Obligations.ChannelOutcomes := by
  refine ⟨fun p => ⟨?clean, ?noisy, rfl, rfl, rfl⟩, fun s v x => ⟨fun unseen => ?unseen, fun live => ?live,
    fun stale => ?stale, rfl, fun stale => missReply_of_stale stale _, fun live => missReply_of_live live _⟩,
    fun s c before new => ⟨?transient, rfl, rfl, rfl⟩⟩
  case clean => exact ite_congr_iff (sensorFault_iff p) rfl rfl
  case noisy => exact ite_congr_iff (sensorFault_iff p) rfl rfl
  case unseen => simp only [channelAfter, cleanReply, unseen, State.stamp]
  case live => exact cleanReply_of_live live _ x _
  case stale => simp only [channelAfter, cleanReply, stale, State.stamp]
  case transient => rw [transientOf, skyChange_eq]

/-! ## The next channel (R47, R49, R50) -/

/-- The channel is in the captured range, at or above a number, and names a sensor (R49). -/
def State.Remains (s : State) (n : Nat) (d : ChannelId) : Prop :=
  n ≤ d.val ∧ s.scan.first ≤ d ∧ d ≤ s.scan.last ∧ (s.channelConfig d).unit ≠ none

theorem remains_iff (s : State) (n : Nat) (d : ChannelId) :
    (decide (n ≤ d.val) && inScanRange s d && (s.channelConfig d).unit.isSome) = true ↔ s.Remains n d := by
  rw [inScanRange, Bool.and_eq_true, Bool.and_eq_true, Bool.and_eq_true, decide_eq_true_iff, decide_eq_true_iff,
    decide_eq_true_iff, Option.isSome_iff_ne_none, and_assoc, and_assoc]
  exact Iff.rfl

theorem nextChannel_of_least {s : State} {n : Nat} {d : ChannelId} (remains : s.Remains n d)
    (least : ∀ e, s.Remains n e → d ≤ e) : nextChannel s n = some d :=
  find?_of_least channelIds_ascending (mem_channelIds d) ((remains_iff s n d).mpr remains)
    fun e _ fits => least e ((remains_iff s n e).mp fits)

theorem nextChannel_eq_none {s : State} {n : Nat} (finished : ∀ d, ¬ s.Remains n d) : nextChannel s n = none :=
  List.find?_eq_none.mpr fun d _ fits => finished d ((remains_iff s n d).mp fits)

/-! ## A completed scan leaves a pass in every bound zone (R49, R75) -/

/-- Every zone bound in `s` is bound and has had its pass now. -/
def State.Passed (s t : State) : Prop :=
  t.clock = s.clock ∧ ∀ z, (s.zone z).mode ≠ .unbound →
    (t.zone z).mode ≠ .unbound ∧ (t.zone z).lastPass = ⟨s.clock, false⟩

theorem computePass_passed {s t : State} (clock : t.clock = s.clock)
    (bound : ∀ z, (s.zone z).mode ≠ .unbound → (t.zone z).mode ≠ .unbound) : s.Passed (computePass t) := by
  have frame := computePass_frame t
  refine ⟨?_, fun z isBound => ?_⟩
  · unfold EventFrame at frame
    rw [frame]
    exact clock
  · have stillBound := bound z isBound
    rw [computePass_zone]
    refine ⟨fun unbound => stillBound ((passZone_unbound t z).mp unbound), ?_⟩
    rw [passZone_of_bound stillBound]
    show (⟨t.clock, false⟩ : Stamp) = _
    rw [clock]

theorem State.Passed.completeScan {s t : State} (h : s.Passed t) : s.Passed (completeScan t) :=
  computePass_passed h.1 fun z bound => (h.2 z bound).1

theorem State.Passed.startScanFuel {s t : State} (fuel : Nat) (urgent : Bool) (h : s.Passed t) :
    s.Passed (startScanFuel fuel urgent t) := by
  induction fuel generalizing urgent t with
  | zero => exact h
  | succ fuel ih =>
    unfold Machine.startScanFuel
    dsimp only
    have opened : s.Passed (openScan urgent t) := h
    split
    · exact opened
    · have completed := opened.completeScan
      generalize Machine.completeScan (openScan urgent t) = u at completed ⊢
      unfold nextScan
      split
      · exact ih _ (t := clearPending u) completed
      · split
        · exact ih _ completed
        · exact completed

theorem finishScan_passed (s : State) : s.Passed (finishScan s) := by
  have completed : s.Passed (completeScan s) := computePass_passed (s := s) (t := s) rfl fun _ bound => bound
  unfold finishScan
  generalize completeScan s = u at completed ⊢
  unfold nextScan
  split
  · exact State.Passed.startScanFuel _ _ (t := clearPending u) completed
  · split
    · exact completed.startScanFuel _ _
    · exact completed

/-! ## The close of a scan query's window (O47) -/

/-- Outside SCANNING an event of the scan leaves the scan controller (R54, R171). -/
theorem foldl_raiseInScan_scan (es : List Event) {s : State} (idle : s.scan.state ≠ .scanning) :
    (es.foldl raiseInScan s).scan = s.scan := by
  induction es generalizing s with
  | nil => rfl
  | cons e es ih =>
    have notice : (noticeOf e s).scan = s.scan := by
      have frame := noticeOf_frame e s
      unfold UpstreamFrame at frame
      rw [frame]
    have same : (raiseInScan s e).scan = s.scan := by
      unfold raiseInScan
      split
      · rw [rescanInScan, if_neg fun h => idle (by rw [← notice]; exact h.1)]
        exact notice
      · exact notice
    rw [List.foldl_cons, ih (by rw [same]; exact idle), same]

/-- The scan goes on with the next channel that remains (R49). -/
theorem advanceScan_of_least {s : State} {c d : ChannelId} (queried : s.scan.lastQueried = some c)
    (remains : s.Remains (c.val + 1) d) (least : ∀ e, s.Remains (c.val + 1) e → d ≤ e) :
    advanceScan s = { s with scan := { s.scan with next := some d, onRow := false, disregard := false } } := by
  have next := nextChannel_of_least (s := { s with scan := { s.scan with onRow := false, disregard := false } })
    remains least
  unfold advanceScan findNext
  dsimp only
  rw [show searchStart { s.scan with onRow := false, disregard := false } = c.val + 1 by simp only [searchStart, queried],
    next]
  rfl

theorem advanceScan_of_none {s : State} {c : ChannelId} (queried : s.scan.lastQueried = some c)
    (finished : ∀ d, ¬ s.Remains (c.val + 1) d) :
    advanceScan s = finishScan { s with scan := { s.scan with next := none, onRow := false, disregard := false } } := by
  have next := nextChannel_eq_none (s := { s with scan := { s.scan with onRow := false, disregard := false } }) finished
  unfold advanceScan findNext
  dsimp only
  rw [show searchStart { s.scan with onRow := false, disregard := false } = c.val + 1 by simp only [searchStart, queried],
    next]
  rfl

theorem closeScan_of_row {s : State} {f : RowFrame} {c : ChannelId} {w : WindowReply} (row : s.rowTx = .onRow f)
    (own : f.owner = .scan c) (closes : windowCloses s f w = true) :
    closeScan w s = scanOutcome c (channelOutcome (windowOutcome f.frame w))
      (enterGap (countOutcome (windowOutcome f.frame w) s)) := by
  rw [closeScan, scanFrame_eq_some.mpr ⟨row, own⟩]
  exact if_pos closes

/-- The state after a scan query's outcome is recorded, unless it is to be disregarded (R44, R57 to R61). -/
def scanRecorded (c : ChannelId) (o : ChannelOutcome) (s : State) : State :=
  if s.scan.disregard then s else recordOutcome c o s

theorem scanRecorded_frame (c : ChannelId) (o : ChannelOutcome) (s : State) :
    InScanFrame { s with channels := (scanRecorded c o s).channels } (scanRecorded c o s) := by
  unfold scanRecorded
  split
  · rfl
  · have frame := foldl_raiseInScan_frame
      ((healthEvent c (s.channelConfig c).unit (s.channel c) (channelAfter s o (s.channel c))).toList ++
        (transientEvent s c o (s.channel c)).toList) (s.setChannel c (channelAfter s o (s.channel c)))
    unfold recordOutcome
    dsimp only
    generalize List.foldl raiseInScan _ _ = t at frame ⊢
    unfold InScanFrame at frame ⊢
    rw [frame]
    rfl

/-- The state as a scan query's window closes: the outcome counted and the gap begun. -/
def scanClosed (k : WindowOutcome) (v : State) : State :=
  countOutcome k { v with rowTx := .gap, rowActivity := v.portTime }

theorem enterGap_countOutcome (k : WindowOutcome) (v : State) : enterGap (countOutcome k v) = scanClosed k v := by
  cases k <;> rfl

/-- The events of a channel's health, as R58 and R60 word them. -/
theorem healthEvent_toList (c : ChannelId) (unit : Option Addr) (before after : ChannelStatus) :
    (healthEvent c unit before after).toList =
      if before.health = .stale ∧ after.health = .fresh then [.sensorRecovered c unit]
      else if before.health ≠ .stale ∧ after.health = .stale then [.sensorStale c unit]
      else [] := by
  unfold healthEvent
  split
  · rfl
  · split <;> rfl

/-- What is recorded is found in the state before the window's close, whose counters alone differ. -/
theorem scanRecorded_closed (c : ChannelId) (k : WindowOutcome) (o : ChannelOutcome) (v : State) :
    scanRecorded c o (scanClosed k v) =
      if v.scan.disregard then scanClosed k v
      else ((healthEvent c (v.channelConfig c).unit (v.channel c) (channelAfter v o (v.channel c))).toList ++
          (transientEvent v c o (v.channel c)).toList).foldl raiseInScan
        { scanClosed k v with channels := v.channels.set c.val (channelAfter v o (v.channel c)) } := by
  cases k <;> rfl

/-- What the record leaves for the rest of the close: range, query, clock, tables, zones and entries. -/
theorem scanRecorded_keeps (c : ChannelId) (k : WindowOutcome) (o : ChannelOutcome) (v : State) :
    ∃ pending urgent, (scanRecorded c o (scanClosed k v)).scan =
        { v.scan with pending := pending, pendingUrgent := urgent } ∧
      (scanRecorded c o (scanClosed k v)).tables = v.tables ∧ (scanRecorded c o (scanClosed k v)).clock = v.clock ∧
      (scanRecorded c o (scanClosed k v)).zones = v.zones ∧ (scanRecorded c o (scanClosed k v)).lums = v.lums := by
  have frame := scanRecorded_frame c o (scanClosed k v)
  generalize scanRecorded c o (scanClosed k v) = u at frame ⊢
  unfold InScanFrame at frame
  refine ⟨u.scan.pending, u.scan.pendingUrgent, ?_⟩
  rw [frame]
  cases k <;> exact ⟨rfl, rfl, rfl, rfl, rfl⟩

theorem scanRecorded_scan_of_stopping (c : ChannelId) (k : WindowOutcome) (o : ChannelOutcome) {v : State}
    (stopping : v.scan.state = .stopping) : (scanRecorded c o (scanClosed k v)).scan = v.scan := by
  have closed : (scanClosed k v).scan = v.scan := by cases k <;> rfl
  rw [scanRecorded_closed]
  split
  · exact closed
  · rw [foldl_raiseInScan_scan _ (by show (scanClosed k v).scan.state ≠ _; rw [closed, stopping]; nofun)]
    exact closed

theorem scanOutcome_of_scanning {c : ChannelId} {o : ChannelOutcome} {s : State}
    (scanning : (scanRecorded c o s).scan.state = .scanning) : scanOutcome c o s = advanceScan (scanRecorded c o s) := by
  unfold scanRecorded at scanning ⊢
  unfold scanOutcome
  dsimp only
  rw [scanning]

theorem scanOutcome_of_stopping {c : ChannelId} {o : ChannelOutcome} {s : State}
    (stopping : (scanRecorded c o s).scan.state = .stopping) : scanOutcome c o s = leaveStopping (scanRecorded c o s) := by
  unfold scanRecorded at stopping ⊢
  unfold scanOutcome
  dsimp only
  rw [stopping]

/-- Settles O47: the record, then the next channel, the completion, or the end of STOPPING. -/
theorem scanQueryOutcomeAdvancesTheScan : Obligations.ScanQueryOutcomeAdvancesTheScan := by
  intro after w s f c v row own queried state closes outcome o before settled unit health closed recorded remains
    offers answers
  have close : exec (.scanQueryOutcome after w) s = .next (scanOutcome c o (scanClosed outcome v)) :=
    congrArg Host.Outcome.next ((closeScan_of_row row own closes).trans
      (congrArg (scanOutcome c o) (enterGap_countOutcome outcome v)))
  have record : scanRecorded c o (scanClosed outcome v) = recorded := by
    rw [scanRecorded_closed, healthEvent_toList]
    rfl
  have keeps := scanRecorded_keeps c outcome o v
  have stoppingScan : v.scan.state = .stopping → recorded.scan = v.scan := fun stopping => by
    rw [← record]
    exact scanRecorded_scan_of_stopping c outcome o stopping
  have scanningOutcome : recorded.scan.state = .scanning →
      scanOutcome c o (scanClosed outcome v) = advanceScan recorded := fun scanning => by
    rw [← record] at scanning ⊢
    exact scanOutcome_of_scanning scanning
  have stoppingOutcome : recorded.scan.state = .stopping →
      scanOutcome c o (scanClosed outcome v) = leaveStopping recorded := fun stopping => by
    rw [← record] at stopping ⊢
    exact scanOutcome_of_stopping stopping
  rw [record] at keeps
  obtain ⟨pending, urgent, scan, tables, clock, zones, lums⟩ := keeps
  refine ⟨fun scanning => ?scanning, fun stopping => ?stopping⟩
  case scanning =>
    have inScan : recorded.scan.state = .scanning := by
      rw [scan]
      exact scanning
    have last : recorded.scan.lastQueried = some c := by
      rw [scan]
      exact queried
    have same : ∀ d, recorded.Remains (c.val + 1) d ↔ remains d := fun d => by
      unfold State.Remains State.channelConfig
      rw [scan, tables]
      exact Iff.rfl
    refine ⟨fun d stands least => ?_, fun finished => ⟨?_, fun z bound => ?_⟩⟩
    · exact close.trans (congrArg Host.Outcome.next ((scanningOutcome inScan).trans
        (advanceScan_of_least last ((same d).mpr stands) fun e fits => least e ((same e).mp fits))))
    · exact close.trans (congrArg Host.Outcome.next ((scanningOutcome inScan).trans
        (advanceScan_of_none last fun d fits => finished d ((same d).mp fits))))
    · have boundNow : ((offers none).zone z).mode ≠ .unbound := by
        show (recorded.zones[z.val]).mode ≠ _
        rw [zones]
        exact bound
      have passed := ((finishScan_passed (offers none)).2 z boundNow).2
      rw [passed]
      show (⟨recorded.clock, false⟩ : Stamp) = _
      rw [clock]
  case stopping =>
    have inStopping : recorded.scan.state = .stopping := by
      rw [stoppingScan stopping]
      exact stopping
    refine ⟨close.trans (congrArg Host.Outcome.next ((stoppingOutcome inStopping).trans ?_)), zones, lums⟩
    have restarts : (recorded.scan.pending && recorded.settings.mode != .off) = true ↔
        v.scan.pending = true ∧ v.settings.mode ≠ .off := by
      rw [Bool.and_eq_true, bne_iff_ne, stoppingScan stopping]
      unfold State.settings
      rw [tables]
    exact ite_congr_iff restarts rfl rfl

end Sys2Proof.Machine

namespace Sys2Proof.Machine

/-! ## Scans that complete at their start (R47, R49) -/

/-- Which zones are blind is a matter of the tables, the channels and the captured range (R66 to R69). -/
theorem isBlind_congr {s t : State} (tables : t.tables = s.tables) (channels : t.channels = s.channels)
    (first : t.scan.first = s.scan.first) (last : t.scan.last = s.scan.last) (z : ZoneId) :
    isBlind t z = isBlind s z := by
  unfold isBlind weighed State.coeff channelValue skyReading usableDirectly inScanRange State.channel
    State.channelConfig State.settings
  rw [tables, channels, first, last]

theorem modeAfterBlind_twice (m : ZoneMode) (blind : Bool) :
    modeAfterBlind (modeAfterBlind m blind) blind = modeAfterBlind m blind := by
  cases m <;> cases blind <;> rfl

theorem passZone_mode (s : State) (z : ZoneId) :
    (passZone s z).mode = modeAfterBlind (s.zone z).mode (isBlind s z) := by
  by_cases unbound : (s.zone z).mode = .unbound
  · rw [passZone, if_pos unbound, unbound]
    rfl
  · rw [passZone_of_bound unbound]

/-- A pass over zones that already have the modes it gives raises nothing (R85, R86). -/
theorem passEvents_eq_nil {s : State} (settled : ∀ z, modeAfterBlind (s.zone z).mode (isBlind s z) = (s.zone z).mode) :
    passEvents s (settledZones s) = [] := by
  rw [passEvents_eq, List.flatMap_eq_nil_iff]
  intro z _
  have same : ((settledZones s).zone z).mode = (s.zone z).mode := by
    rw [settledZones_zone, passZone_mode, settled]
  rw [same, if_neg fun h => absurd (h.1.symm.trans h.2) nofun, if_neg fun h => absurd (h.1.symm.trans h.2) nofun]

theorem computePass_scan_of_settled {s : State}
    (settled : ∀ z, modeAfterBlind (s.zone z).mode (isBlind s z) = (s.zone z).mode) :
    (computePass s).scan = s.scan := by
  have updates := handOutputs_frame (settledZones s).boundMembers (settledZones s)
  rw [computePass_eq, passEvents_eq_nil settled]
  unfold RowMapFrame at updates
  rw [List.foldl_nil, updates]
  rfl

/-- The next channel a scan begins with (R47). -/
theorem openScan_next (urgent : Bool) (s : State) :
    (openScan urgent s).scan.next = nextChannel (openScan urgent s) s.settings.first.val := rfl

/-- No channel of the settings' range names a sensor. -/
def State.NoSensor (s : State) : Prop :=
  ∀ c, ¬ (s.settings.first ≤ c ∧ c ≤ s.settings.last ∧ (s.channelConfig c).unit ≠ none)

theorem openScan_next_of_noSensor {s : State} (none : s.NoSensor) (urgent : Bool) :
    (openScan urgent s).scan.next = .none :=
  nextChannel_eq_none (s := openScan urgent s) fun c ⟨_, first, last, unit⟩ => none c ⟨first, last, unit⟩

theorem startScanFuel_of_noSensor {s : State} (none : s.NoSensor) (fuel : Nat) (urgent : Bool) :
    startScanFuel (fuel + 1) urgent s = nextScan (startScanFuel fuel) (completeScan (openScan urgent s)) := by
  have nothing := openScan_next_of_noSensor none urgent
  unfold startScanFuel
  dsimp only
  rw [nothing]
  rfl

/-- What the completion of a scan leaves beside what its pass does (R49). -/
theorem completeScan_scan (s : State) :
    (completeScan s).scan = { (computePass s).scan with
      state := .idle, next := none, onRow := false, disregard := false, urgent := false
      emptyDone := s.scan.lastQueried.isNone } := by
  have kept : (computePass s).scan.lastQueried = s.scan.lastQueried := by
    have frame := foldl_raiseInScan_frame (passEvents s (settledZones s))
      ((settledZones s).handOutputs (settledZones s).boundMembers)
    have updates := handOutputs_frame (settledZones s).boundMembers (settledZones s)
    rw [← computePass_eq] at frame
    unfold InScanFrame at frame
    unfold RowMapFrame at updates
    rw [frame, updates]
    rfl
  rw [← kept]
  rfl

/-- A second scan without a channel, right after a first, settles nothing and leaves no rescan pending (log entry 23). -/
theorem completeScan_twice {s : State} (urgent again : Bool) :
    (completeScan (openScan again (clearPending (completeScan (openScan urgent s))))).scan.pending = false := by
  have frame := completeScan_frame (openScan urgent s)
  have modes : ∀ z, ((completeScan (openScan urgent s)).zone z).mode =
      modeAfterBlind ((openScan urgent s).zone z).mode (isBlind (openScan urgent s) z) := fun z => by
    have zone : (completeScan (openScan urgent s)).zone z = passZone (openScan urgent s) z := computePass_zone _ z
    rw [zone, passZone_mode]
  generalize completeScan (openScan urgent s) = u at frame modes ⊢
  unfold EventFrame at frame
  have tables : u.tables = s.tables := by rw [frame]; rfl
  have channels : u.channels = s.channels := by rw [frame]; rfl
  have blind : ∀ z, isBlind (openScan again (clearPending u)) z = isBlind (openScan urgent s) z := fun z =>
    isBlind_congr (t := openScan again (clearPending u)) (s := openScan urgent s) tables channels
      (congrArg (fun t : Tables => t.settings.first) tables) (congrArg (fun t : Tables => t.settings.last) tables) z
  have settled : ∀ z, modeAfterBlind ((openScan again (clearPending u)).zone z).mode
      (isBlind (openScan again (clearPending u)) z) = ((openScan again (clearPending u)).zone z).mode := fun z => by
    have zone : ((openScan again (clearPending u)).zone z).mode = (u.zone z).mode := rfl
    rw [zone, blind, modes, modeAfterBlind_twice]
  rw [completeScan_scan, computePass_scan_of_settled settled]
  rfl

/-- After a scan that queried no channel, a chain of scans without a channel ends with the next: any bound from 2 on gives it whole (log entry 23). -/
theorem nextScan_of_noSensor {s : State} (none : s.NoSensor) (urgent : Bool) (fuel : Nat) :
    nextScan (startScanFuel (fuel + 1)) (completeScan (openScan urgent s)) =
      if (completeScan (openScan urgent s)).scan.pending = true then
        completeScan (openScan (completeScan (openScan urgent s)).scan.pendingUrgent
          (clearPending (completeScan (openScan urgent s))))
      else completeScan (openScan urgent s) := by
  have frame := completeScan_frame (openScan urgent s)
  have empty : (completeScan (openScan urgent s)).scan.emptyDone = true := by
    rw [completeScan_scan]
    rfl
  have last := fun again => completeScan_twice (s := s) urgent again
  generalize completeScan (openScan urgent s) = u at frame empty last ⊢
  unfold EventFrame at frame
  have still : (clearPending u).NoSensor := fun c => by
    have tables : (clearPending u).tables = s.tables := by
      show u.tables = _
      rw [frame]
      rfl
    unfold State.settings State.channelConfig
    rw [tables]
    exact none c
  have emptyTwice : ∀ again, (completeScan (openScan again (clearPending u))).scan.emptyDone = true := fun again => by
    rw [completeScan_scan]
    rfl
  by_cases pending : u.scan.pending = true
  · rw [nextScan, if_pos pending, if_pos pending, startScanFuel_of_noSensor still, nextScan,
      if_neg (by rw [last]; nofun), if_neg fun h => absurd (emptyTwice u.scan.pendingUrgent) (by rw [h.2]; nofun)]
  · rw [nextScan, if_neg pending, if_neg pending, if_neg fun h => absurd empty (by rw [h.2]; nofun)]

/-- Without a channel a scan completes at its start (R47, R49). -/
theorem startScan_of_noSensor {s : State} (none : s.NoSensor) (urgent : Bool) :
    startScan urgent s = finishScan (openScan urgent s) := by
  have start : startScan urgent s = nextScan (startScanFuel 3) (completeScan (openScan urgent s)) :=
    startScanFuel_of_noSensor none 3 urgent
  have finish : finishScan (openScan urgent s) = nextScan (startScanFuel 4) (completeScan (openScan urgent s)) := rfl
  rw [start, finish, nextScan_of_noSensor none urgent 2, nextScan_of_noSensor none urgent 3]

theorem startScan_idle_of_noSensor {s : State} (none : s.NoSensor) (urgent : Bool) :
    (startScan urgent s).scan.state = .idle := by
  have start : startScan urgent s = nextScan (startScanFuel 3) (completeScan (openScan urgent s)) :=
    startScanFuel_of_noSensor none 3 urgent
  rw [start, nextScan_of_noSensor none urgent 2]
  split <;> rw [completeScan_scan]

/-- A scan starts at the lowest channel of the range that names a sensor (R47, R119). -/
theorem startScan_of_least {s : State} {c : ChannelId}
    (names : s.settings.first ≤ c ∧ c ≤ s.settings.last ∧ (s.channelConfig c).unit ≠ none)
    (least : ∀ d, s.settings.first ≤ d ∧ d ≤ s.settings.last ∧ (s.channelConfig d).unit ≠ none → c ≤ d)
    (urgent : Bool) :
    startScan urgent s = { openScan urgent s with scan := { (openScan urgent s).scan with next := some c } } := by
  have next : (openScan urgent s).scan.next = some c := by
    rw [openScan_next]
    exact nextChannel_of_least ⟨names.1, names⟩ fun d stands => least d ⟨stands.2.1, stands.2.2.1, stands.2.2.2⟩
  have opened : startScan urgent s = openScan urgent s := by
    show (if (openScan urgent s).scan.next.isSome then openScan urgent s else _) = _
    rw [next]
    rfl
  rw [opened, ← next]

theorem completeScan_eq (s : State) :
    completeScan s = { computePass s with scan := { (computePass s).scan with
      state := .idle, next := none, onRow := false, disregard := false, urgent := false
      emptyDone := s.scan.lastQueried.isNone } } := by
  have scan := completeScan_scan s
  have rest : completeScan s = { computePass s with scan := (completeScan s).scan } := rfl
  rw [rest, scan]

/-! ## Triggers and events (O48) -/

theorem trigger_of_off {s : State} (off : s.settings.mode = .off) (urgent : Bool) : trigger urgent s = s := if_pos off

theorem trigger_of_on {s : State} (on : s.settings.mode ≠ .off) (urgent : Bool) :
    trigger urgent s = match s.scan.state with
      | .idle => startScan urgent s
      | .scanning => setPending urgent s
      | .stopping => s
      | .suspended => s := if_neg on

theorem noticeOf_eq (e : Event) (s : State) :
    noticeOf e s = if (s.tables.routes[e.kind.val]).priority = 0 then s
      else offerNotice ⟨e, s.clock, (s.tables.routes[e.kind.val]).priority⟩ s := by
  unfold noticeOf
  dsimp only
  by_cases none : (s.tables.routes[e.kind.val]).priority = 0
  · rw [if_pos none, if_neg (by omega)]
  · rw [if_neg none, if_pos (by omega)]

/-- Settles O48: a trigger by scan state, a start, a completion, and an event by its route. -/
theorem triggersAndEventsAreTaken : Obligations.TriggersAndEventsAreTaken := by
  refine ⟨fun urgent s => ⟨fun still => ?still, fun on scanning => ?scanning, fun on idle => ?idle⟩,
    fun urgent s => ⟨fun c names least => startScan_of_least names least urgent, fun absent => ⟨?start,
      startScan_idle_of_noSensor absent urgent, fun z bound => ?passed⟩⟩, fun s => ?finish, fun e s => ⟨?raised, ?inScan⟩⟩
  case still =>
    by_cases on : s.settings.mode = .off
    · exact trigger_of_off on urgent
    · rw [trigger_of_on on]
      obtain off | stopping | suspended := still
      · exact absurd off (not_not_intro on)
      · rw [stopping]
      · rw [suspended]
  case scanning =>
    rw [trigger_of_on on, scanning]
    rfl
  case idle => rw [trigger_of_on on, idle]
  case start =>
    have opened : openScan urgent s =
        { openScan urgent s with scan := { (openScan urgent s).scan with next := none } } := by
      have next := openScan_next_of_noSensor absent urgent
      rw [← next]
    exact (startScan_of_noSensor absent urgent).trans (congrArg finishScan opened)
  case passed =>
    rw [startScan_of_noSensor absent urgent]
    exact ((finishScan_passed (openScan urgent s)).2 z bound).2
  case finish =>
    have settings : (completeScan s).settings = s.settings := by
      have frame := completeScan_frame s
      unfold EventFrame at frame
      rw [frame]
      rfl
    have queried : s.scan.lastQueried.isNone = false ↔ s.scan.lastQueried ≠ none := by
      cases s.scan.lastQueried <;> simp
    rw [finishScan, nextScan, settings, completeScan_eq]
    by_cases pending : (computePass s).scan.pending = true
    · rw [if_pos pending]
      exact (if_pos pending).symm
    · have cleared := congrArg (fun mark => ({ computePass s with scan := { (computePass s).scan with
        state := .idle, next := none, onRow := false, disregard := false, urgent := false
        emptyDone := s.scan.lastQueried.isNone, pending := mark } } : State)) (Bool.eq_false_iff.mpr pending)
      refine (if_neg pending).trans ((ite_congr_iff (and_congr_right' queried) ?_ ?_).trans (if_neg pending).symm)
      · exact congrArg (startScan false) cleared
      · exact cleared
  case raised =>
    rw [← noticeOf_eq]
    rfl
  case inScan =>
    rw [← noticeOf_eq]
    have scan : (noticeOf e s).scan = s.scan ∧ (noticeOf e s).settings = s.settings := by
      have frame := noticeOf_frame e s
      unfold UpstreamFrame at frame
      rw [frame]
      exact ⟨rfl, rfl⟩
    unfold raiseInScan rescanInScan
    rw [scan.1, scan.2]
    by_cases rescans : routeRescans e s = true
    · rw [if_pos rescans]
      exact ite_congr_iff ⟨fun h => ⟨rescans, h⟩, fun h => h.2⟩ rfl rfl
    · rw [if_neg rescans, if_neg fun h => rescans h.1]

/-! ## Triggers that are due (O49) -/

theorem tickDue_iff (s : State) :
    tickDue s = true ↔ s.settings.mode = .periodic ∧ s.scan.state ≠ .suspended ∧ s.scan.tickTaken = false ∧
      s.settings.period ≤ s.scan.start.interval s.clock := by
  rw [tickDue, Bool.and_eq_true, Bool.and_eq_true, Bool.and_eq_true, beq_iff_eq, bne_iff_ne, Bool.not_eq_true',
    periodOver, decide_eq_true_iff, and_assoc, and_assoc]

theorem continuousDue_iff (s : State) :
    continuousDue s = true ↔ s.settings.mode = .continuous ∧ s.scan.state = .idle ∧ s.scan.emptyDone = true ∧
      s.settings.period ≤ s.scan.start.interval s.clock := by
  rw [continuousDue, Bool.and_eq_true, Bool.and_eq_true, Bool.and_eq_true, beq_iff_eq, beq_iff_eq,
    periodOver, decide_eq_true_iff, and_assoc, and_assoc]

theorem tickIfDue_eq (s : State) :
    tickIfDue s = if s.settings.mode = .periodic ∧ s.scan.state ≠ .suspended ∧ s.scan.tickTaken = false ∧
        s.settings.period ≤ s.scan.start.interval s.clock then
      trigger false { s with scan := { s.scan with tickTaken := true } } else s :=
  ite_congr_iff (tickDue_iff s) rfl rfl

/-- Settles O49: the tick, the continuous restart and TRIGGER SCAN. -/
theorem scanTriggersComeWhenDue : Obligations.ScanTriggersComeWhenDue := by
  intro after req s
  refine ⟨congrArg (fun t => Host.Outcome.next (arbitrate t)) (tickIfDue_eq (passTime after s)),
    congrArg (fun t => Host.Outcome.next (arbitrate t))
      (ite_congr_iff (continuousDue_iff (passTime after s)) rfl rfl : restartContinuous (passTime after s) = _),
    fun off => congrArg (fun r => Host.Outcome.next (arbitrate (respond req r))) ?_,
    fun on => congrArg (fun r => Host.Outcome.next (arbitrate (respond req r))) ?_⟩
  · exact if_pos off
  · exact if_neg on

end Sys2Proof.Machine

namespace Sys2Proof.Machine

/-! ## What scans and events keep -/

/-- A property of the state that each step of a scan's start and completion keeps, and so do the marks of a pending rescan and notices. -/
structure ScanSteps (Inv : State → Prop) : Prop where
  opened : ∀ urgent s, Inv s → Inv (openScan urgent s)
  completed : ∀ s, Inv s → Inv (completeScan s)
  marks : ∀ s pending urgent, Inv s → Inv { s with scan := { s.scan with pending := pending, pendingUrgent := urgent } }
  notice : ∀ e s, Inv s → Inv (noticeOf e s)

namespace ScanSteps

variable {Inv : State → Prop}

theorem nextScan (r : ScanSteps Inv) {start : Bool → State → State} (starts : ∀ urgent s, Inv s → Inv (start urgent s))
    {s : State} (h : Inv s) : Inv (nextScan start s) := by
  unfold Machine.nextScan
  split
  · exact starts _ _ (r.marks s false false h)
  · split
    · exact starts _ _ h
    · exact h

/-- A scan that starts has the property once it holds at its start. -/
theorem startScanFuel_of_opened (r : ScanSteps Inv) (fuel : Nat) (urgent : Bool) {s : State}
    (h : Inv (openScan urgent s)) : Inv (startScanFuel (fuel + 1) urgent s) := by
  have chain : ∀ fuel urgent s, Inv s → Inv (startScanFuel fuel urgent s) := by
    intro fuel
    induction fuel with
    | zero => exact fun _ _ k => k
    | succ n ih =>
      intro urgent s k
      unfold startScanFuel
      dsimp only
      split
      · exact r.opened urgent s k
      · exact r.nextScan ih (r.completed _ (r.opened urgent s k))
  unfold startScanFuel
  dsimp only
  split
  · exact h
  · exact r.nextScan (chain fuel) (r.completed _ h)

theorem startScan_of_opened (r : ScanSteps Inv) (urgent : Bool) {s : State} (h : Inv (openScan urgent s)) :
    Inv (startScan urgent s) := r.startScanFuel_of_opened 3 urgent h

theorem trigger (r : ScanSteps Inv) (urgent : Bool) {s : State} (h : Inv s) : Inv (trigger urgent s) := by
  unfold Machine.trigger
  split
  · exact h
  · split
    · exact r.startScan_of_opened urgent (r.opened urgent s h)
    · exact r.marks s _ _ h
    · exact h
    · exact h

theorem raise (r : ScanSteps Inv) (e : Event) {s : State} (h : Inv s) : Inv (raise e s) := by
  unfold Machine.raise
  split
  · exact r.trigger true (r.notice e s h)
  · exact r.notice e s h

end ScanSteps

/-- What a pass keeps: the zones' change, the recomputation of luminaires, and what its events touch. -/
theorem computePass_keeps {Inv : State → Prop} (zones : ∀ s, Inv s → Inv (settledZones s))
    (recomputed : ∀ s a, s.isLum a = true → Inv s → Inv (recompute s a))
    (marks : ∀ s pending urgent, Inv s → Inv { s with scan := { s.scan with pending := pending, pendingUrgent := urgent } })
    (notice : ∀ e s, Inv s → Inv (noticeOf e s)) {s : State} (h : Inv s) : Inv (computePass s) := by
  have updated : ∀ (as : List Addr) (t : State), (∀ a ∈ as, t.isLum a = true) → Inv t →
      Inv (as.foldl Machine.recompute t) := by
    intro as
    induction as with
    | nil => exact fun _ _ k => k
    | cons a as ih =>
      refine fun t luminaires k => ih _ (fun b member => ?_) (recomputed t a (luminaires a List.mem_cons_self) k)
      rw [(recompute_frame t a).isLum b]
      exact luminaires b (List.mem_cons_of_mem a member)
  exact foldl_raiseInScan_keeps marks notice _ (updated _ _ (fun a member => (mem_boundMembers.mp member).1) (zones s h))

/-! ## The return of row power (O50) -/

/-- The row map at the return of row power, and as passes leave it: every luminaire waits with S invalid and not urgent, in ascending order, and the other entries are as they were (R34). -/
def State.Returned (v t : State) : Prop :=
  (∀ a, t.isLum a = v.isLum a) ∧ t.pendingList = v.luminaires ∧
  (∀ a, v.isLum a = true →
    (t.lum a).shadow = .pending ∧ (t.lum a).urgent = false ∧ (t.lum a).sentValid = false ∧
    (t.lum a).base = (v.lum a).base ∧ (t.lum a).aligned = (v.lum a).aligned ∧ (t.lum a).health = (v.lum a).health) ∧
  ∀ a, v.isLum a = false → t.lum a = v.lum a

theorem State.Returned.same {v t u : State} (h : v.Returned t)
    (k : u.tables = t.tables ∧ u.lums = t.lums ∧ u.pendingList = t.pendingList) : v.Returned u := by
  obtain ⟨tables, lums, list⟩ := k
  have lum : ∀ a, u.lum a = t.lum a := fun a => by
    unfold State.lum
    rw [lums]
  have role : ∀ a, u.isLum a = t.isLum a := fun a => by
    unfold State.isLum State.row
    rw [tables]
  obtain ⟨roles, pending, entries, others⟩ := h
  exact ⟨fun a => (role a).trans (roles a), list.trans pending, fun a luminaire => by rw [lum]; exact entries a luminaire,
    fun a other => (lum a).trans (others a other)⟩

/-- An update changes only output and fade of an entry that waits with S invalid (R29). -/
theorem State.Returned.recompute {v t : State} (h : v.Returned t) {a : Addr} (luminaire : t.isLum a = true) :
    v.Returned (recompute t a) := by
  obtain ⟨roles, list, entries, others⟩ := h
  have isLum : v.isLum a = true := (roles a).symm.trans luminaire
  obtain ⟨shadow, calm, invalid, base, aligned, health⟩ := entries a isLum
  have frame := recompute_frame t a
  have update : Machine.recompute t a = t ∨
      Machine.recompute t a = t.setLum a { t.lum a with output := t.outputOf a, emissionFade := t.updateFade a } := by
    unfold Machine.recompute outputUpdate
    split
    · exact .inl rfl
    · refine .inr ?_
      rw [applyUpdate_of_pending shadow, if_neg fun back => absurd back.1 (by rw [invalid]; nofun), setLum_settle,
        if_neg nofun, if_neg (by rw [calm]; nofun)]
  obtain same | put := update
  · rw [same]
    exact ⟨roles, list, entries, others⟩
  · have lum : ∀ b, (Machine.recompute t a).lum b =
        if b = a then { t.lum a with output := t.outputOf a, emissionFade := t.updateFade a } else t.lum b := fun b => by
      rw [put, lum_setLum]
    refine ⟨fun b => (frame.isLum b).trans (roles b), ?_, fun b luminaire => ?_, fun b other => ?_⟩
    · rw [put]
      exact list
    · rw [lum]
      split
      · next same =>
        rw [same]
        exact ⟨shadow, calm, invalid, base, aligned, health⟩
      · exact entries b luminaire
    · rw [lum, if_neg fun same => ?_]
      · exact others b other
      · rw [same, isLum] at other
        cases other

theorem State.Returned.noticeOf {v t : State} (h : v.Returned t) (e : Event) : v.Returned (noticeOf e t) := by
  have frame := noticeOf_frame e t
  unfold UpstreamFrame at frame
  exact h.same (by rw [frame]; exact ⟨rfl, rfl, rfl⟩)

theorem returnedSteps (v : State) : ScanSteps v.Returned where
  opened _ _ h := h.same ⟨rfl, rfl, rfl⟩
  completed s h := by
    have passed : v.Returned (computePass s) := computePass_keeps (fun _ k => k.same ⟨rfl, rfl, rfl⟩)
      (fun _ _ luminaire k => k.recompute luminaire) (fun _ _ _ k => k.same ⟨rfl, rfl, rfl⟩)
      (fun e _ k => k.noticeOf e) h
    exact passed.same ⟨rfl, rfl, rfl⟩
  marks _ _ _ h := h.same ⟨rfl, rfl, rfl⟩
  notice e _ h := h.noticeOf e

/-- The most recent scan started now, and the controller is not SUSPENDED (R47, R56). -/
def State.StartedAt (now : Clock) (t : State) : Prop :=
  t.clock = now ∧ t.scan.start = ⟨now, false⟩ ∧ t.lowerTurn = false ∧ t.scan.state ≠ .suspended

theorem computePass_scan (s : State) :
    ∃ pending urgent, (computePass s).scan = { s.scan with pending := pending, pendingUrgent := urgent } ∧
      (computePass s).lowerTurn = s.lowerTurn := by
  have frame := foldl_raiseInScan_frame (passEvents s (settledZones s))
    ((settledZones s).handOutputs (settledZones s).boundMembers)
  have updates := handOutputs_frame (settledZones s).boundMembers (settledZones s)
  rw [← computePass_eq] at frame
  unfold InScanFrame at frame
  unfold RowMapFrame at updates
  refine ⟨(computePass s).scan.pending, (computePass s).scan.pendingUrgent, ?_⟩
  rw [frame, updates]
  exact ⟨rfl, rfl⟩

theorem startedSteps (now : Clock) : ScanSteps (State.StartedAt now) where
  opened urgent s h := by
    obtain ⟨clock, -⟩ := h
    exact ⟨clock, congrArg (Stamp.mk · false) clock, rfl, nofun⟩
  completed s h := by
    obtain ⟨clock, start, turn, -⟩ := h
    obtain ⟨pending, urgent, scan, kept⟩ := computePass_scan s
    have frame := completeScan_frame s
    have after : (completeScan s).clock = s.clock := by
      unfold EventFrame at frame
      rw [frame]
    refine ⟨after.trans clock, ?_, kept.trans turn, ?_⟩
    · rw [completeScan_scan, scan]
      exact start
    · rw [completeScan_scan]
      nofun
  marks _ _ _ h := h
  notice e s h := by
    have frame := noticeOf_frame e s
    unfold UpstreamFrame at frame
    unfold State.StartedAt
    rw [frame]
    exact h

/-- An event raised in a scan leaves its entries, range and query (R51, R171). -/
theorem raise_of_scanning {s : State} (scanning : s.scan.state = .scanning) (e : Event) : InScanFrame s (raise e s) := by
  have notice := noticeOf_frame e s
  have still : (noticeOf e s).scan.state = .scanning := by
    unfold UpstreamFrame at notice
    rw [notice]
    exact scanning
  unfold raise
  split
  · refine notice.inScan.trans ?_
    by_cases off : (noticeOf e s).settings.mode = .off
    · rw [trigger_of_off off]
      rfl
    · rw [trigger_of_on off, still]
      rfl
  · exact notice.inScan

/-- A scan whose range names a sensor opens with its query (R47). -/
theorem startScan_of_named {s : State} {c : ChannelId} (first : s.settings.first ≤ c) (last : c ≤ s.settings.last)
    (unit : (s.channelConfig c).unit ≠ none) (urgent : Bool) : startScan urgent s = openScan urgent s := by
  have found : (openScan urgent s).scan.next.isSome = true := by
    rw [openScan_next]
    exact List.find?_isSome.mpr ⟨c, mem_channelIds c, (remains_iff (openScan urgent s) _ c).mpr ⟨first, first, last, unit⟩⟩
  exact if_pos found

/-- The state at the return of row power, as the scan controller is to be triggered (R21, R34, R56). -/
def returnedState (v : State) : State := endScan .idle (rowMapReturned (enterGap { v with power := { v.power with present := true } }))

theorem rowPowerReturned_eq (v : State) :
    rowPowerReturned v = raise .rowPowerRestored (trigger false (returnedState v)) := rfl

theorem returnedState_lum (v : State) (a : Addr) :
    (returnedState v).lum a = if v.isLum a then (v.lum a).return else v.lum a :=
  rowMapReturned_lum (enterGap { v with power := { v.power with present := true } }) a

theorem returnedState_tables (v : State) : (returnedState v).tables = v.tables := by
  simp only [returnedState, endScan, rowMapReturned, State.mapLuminaires, enterGap]

theorem returnedState_pendingList (v : State) : (returnedState v).pendingList = v.luminaires := by
  simp only [returnedState, endScan, rowMapReturned]
  rfl

theorem returnedState_isLum (v : State) (a : Addr) : (returnedState v).isLum a = v.isLum a := by
  unfold State.isLum State.row
  rw [returnedState_tables]

theorem returnedState_returned (v : State) : v.Returned (returnedState v) := by
  refine ⟨returnedState_isLum v, returnedState_pendingList v, fun a luminaire => ?_, fun a other => ?_⟩
  · rw [returnedState_lum, if_pos luminaire]
    exact ⟨rfl, rfl, rfl, rfl, rfl, rfl⟩
  · rw [returnedState_lum, if_neg (by rw [other]; nofun)]

theorem presentDue_iff (s : State) :
    presentDue s = true ↔ s.power.present = false ∧ s.power.above = true ∧ 200000 ≤ s.portTime - s.power.since := by
  rw [presentDue, Bool.and_eq_true, Bool.and_eq_true, Bool.not_eq_true', decide_eq_true_iff, and_assoc]
  exact Iff.rfl

theorem absentDue_iff (s : State) :
    absentDue s = true ↔ s.power.present = true ∧ s.power.above = false ∧ 20000 ≤ s.portTime - s.power.since := by
  rw [absentDue, Bool.and_eq_true, Bool.and_eq_true, Bool.not_eq_true', decide_eq_true_iff, and_assoc]
  exact Iff.rfl

theorem crossThreshold_eq (above : Bool) (v : State) :
    crossThreshold above v = if v.power.above = above then v
      else { v with power := ⟨v.power.present, above, v.portTime⟩ } := rfl

theorem returnedState_frame {v : State} (above : v.power.above = true) :
    returnedState v = { v with
      power := ⟨true, true, v.power.since⟩, rowTx := .gap, rowActivity := v.portTime
      lums := (returnedState v).lums, pendingList := v.luminaires
      scan := { v.scan with
        state := .idle, next := none, onRow := false, disregard := false, urgent := false } } := by
  have list := returnedState_pendingList v
  have frame : returnedState v = { v with
      power := ⟨true, v.power.above, v.power.since⟩, rowTx := .gap, rowActivity := v.portTime
      lums := (returnedState v).lums, pendingList := (returnedState v).pendingList
      scan := { v.scan with
        state := .idle, next := none, onRow := false, disregard := false, urgent := false } } := by
    simp only [returnedState, endScan, rowMapReturned, State.mapLuminaires, enterGap]
  rwa [list, above] at frame

theorem returnedState_lums (v : State) :
    (returnedState v).lums = Vector.ofFn fun a : Addr => if v.isLum a = true then
        { v.lum a with shadow := .pending, sentValid := false, urgent := false, emissionFade := (v.lum a).baseFade }
      else v.lum a := by
  refine Vector.ext fun i below => ?_
  rw [Vector.getElem_ofFn]
  exact returnedState_lum v ⟨i, below⟩

theorem returnedState_fields {v : State} (above : v.power.above = true) :
    (returnedState v).power = ⟨true, true, v.power.since⟩ ∧ (returnedState v).rowTx = .gap ∧
    (returnedState v).rowActivity = v.portTime ∧ (returnedState v).forward = v.forward ∧
    (returnedState v).scan.state = .idle ∧ (returnedState v).clock = v.clock ∧ (returnedState v).tables = v.tables ∧
    (returnedState v).channels = v.channels ∧ (returnedState v).verify = v.verify ∧
    (returnedState v).counters = v.counters := by
  rw [returnedState_frame above]
  exact ⟨rfl, rfl, rfl, rfl, rfl, rfl, rfl, rfl, rfl, rfl⟩

/-- In scan mode OFF an event is no trigger (R51). -/
theorem raise_of_off {s : State} (off : s.settings.mode = .off) (e : Event) : raise e s = noticeOf e s := by
  have still : (noticeOf e s).settings.mode = .off := by
    have frame := noticeOf_frame e s
    unfold UpstreamFrame at frame
    rw [frame]
    exact off
  unfold raise
  rw [trigger_of_off still, ite_self]

/-- Settles O50: the measurement, and what every block is after the return of row power. -/
theorem powerReturnActsAfterItsMeasurement : Obligations.PowerReturnActsAfterItsMeasurement := by
  refine ⟨fun after above s => congrArg Host.Outcome.next (crossThreshold_eq above (passTime after s)), fun after s => ?_⟩
  intro v due
  have exec_eq : exec (.rowPowerPresent after) s = .next (regainPower v) := rfl
  refine ⟨fun early => ?early, fun now => ⟨rowPowerReturned v, ?now, ?state, ?rest⟩⟩
  case early => rw [exec_eq, regainPower, if_neg fun h => early ((presentDue_iff v).mp h)]
  case now => rw [exec_eq, regainPower, if_pos ((presentDue_iff v).mpr now)]
  case state =>
    have frame := returnedState_frame now.2.1
    rw [returnedState_lums] at frame
    exact (rowPowerReturned_eq v).trans (congrArg (fun u => raise .rowPowerRestored (trigger false u)) frame)
  case rest =>
    have frame : EventFrame (returnedState v) (rowPowerReturned v) :=
      (trigger_frame false _).trans (raise_frame .rowPowerRestored _)
    have returned : v.Returned (rowPowerReturned v) :=
      (returnedSteps v).raise _ ((returnedSteps v).trigger false (returnedState_returned v))
    obtain ⟨roles, list, entries, others⟩ := returned
    obtain ⟨power, row, activity, forward, idle, clock, tables, channels, verify, counters⟩ :=
      returnedState_fields now.2.1
    have settings : (returnedState v).settings = v.settings := congrArg Tables.settings tables
    have started : v.settings.mode ≠ .off → State.StartedAt v.clock (rowPowerReturned v) := fun on => by
      rw [rowPowerReturned_eq, trigger_of_on (by rw [settings]; exact on), idle]
      exact (startedSteps v.clock).raise _ ((startedSteps v.clock).startScan_of_opened false
        ⟨clock, congrArg (Stamp.mk · false) clock, rfl, nofun⟩)
    have stays : v.settings.mode = .off → (rowPowerReturned v).scan.state ≠ .suspended := fun off => by
      rw [rowPowerReturned_eq, trigger_of_off (by rw [settings]; exact off),
        raise_of_off (by rw [settings]; exact off)]
      have notice := noticeOf_frame .rowPowerRestored (returnedState v)
      unfold UpstreamFrame at notice
      rw [notice]
      show (returnedState v).scan.state ≠ _
      rw [idle]
      nofun
    have scans : ∀ c, v.settings.first ≤ c → c ≤ v.settings.last → (v.channelConfig c).unit ≠ none →
        v.settings.mode ≠ .off → InScanFrame (openScan false (returnedState v)) (rowPowerReturned v) :=
      fun c first last unit on => by
        have named : startScan false (returnedState v) = openScan false (returnedState v) := by
          refine startScan_of_named (c := c) ?_ ?_ ?_ false
          · rw [settings]
            exact first
          · rw [settings]
            exact last
          · unfold State.channelConfig
            rw [tables]
            exact unit
        rw [rowPowerReturned_eq, trigger_of_on (by rw [settings]; exact on), idle]
        show InScanFrame _ (raise _ (startScan false (returnedState v)))
        rw [named]
        exact raise_of_scanning rfl _
    have waits := returnedState_lum v
    generalize rowPowerReturned v = t at *
    generalize returnedState v = w at *
    have kept : t.power = w.power ∧ t.rowTx = w.rowTx ∧ t.rowActivity = w.rowActivity ∧ t.forward = w.forward ∧
        t.tables = w.tables ∧ t.channels = w.channels ∧ t.verify = w.verify ∧ t.counters = w.counters := by
      unfold EventFrame at frame
      rw [frame]
      exact ⟨rfl, rfl, rfl, rfl, rfl, rfl, rfl, rfl⟩
    obtain ⟨power', row', activity', forward', tables', channels', verify', counters'⟩ := kept
    refine ⟨power'.trans power, row'.trans row, activity'.trans activity, forward'.trans forward, list, entries, others,
      ?_, fun on => ⟨(started on).2.1, (started on).2.2.1⟩, fun c first last unit on => ?_, tables'.trans tables,
      channels'.trans channels, verify'.trans verify, counters'.trans counters⟩
    · by_cases off : v.settings.mode = .off
      · exact stays off
      · exact (started off).2.2.2
    · have opened := scans c first last unit on
      unfold InScanFrame at opened
      rw [opened]
      refine ⟨rfl, rfl, rfl, fun a luminaire => ?_⟩
      show (w.lum a).emissionFade = _
      rw [waits, if_pos luminaire]
      rfl

end Sys2Proof.Machine

namespace Sys2Proof.Machine

/-! ## The loss of row power (O51) -/

/-- The upstream queue with its markers: what an offer to the queue reads and changes (R15, R18). -/
def State.SameUpstream (s t : State) : Prop :=
  s.upstream = t.upstream ∧ s.noticesLost = t.noticesLost ∧ s.lostSinceStart = t.lostSinceStart

theorem makePlace_sameUpstream {s t : State} (h : s.SameUpstream t) : (makePlace s).SameUpstream (makePlace t) := by
  obtain ⟨queue, lost, since⟩ := h
  unfold makePlace
  rw [queue]
  cases lowestPriority t.upstream with
  | some p => exact ⟨rfl, rfl, rfl⟩
  | none =>
    dsimp only
    split
    · exact ⟨rfl, rfl, rfl⟩
    · exact ⟨queue, lost, since⟩

theorem placeDeferred_sameUpstream (d : DeferredReply) {s t : State} (h : s.SameUpstream t) :
    (placeDeferred d s).SameUpstream (placeDeferred d t) := by
  obtain ⟨queue, lost, since⟩ := h
  unfold placeDeferred
  rw [queue]
  split
  · exact ⟨queue, lost, since⟩
  · exact ⟨rfl, lost, since⟩

theorem offerDeferred_sameUpstream (d : DeferredReply) {s t : State} (h : s.SameUpstream t) :
    (offerDeferred d s).SameUpstream (offerDeferred d t) := by
  rw [offerDeferred_eq, offerDeferred_eq, h.1]
  refine placeDeferred_sameUpstream d ?_
  split
  · exact makePlace_sameUpstream h
  · exact h

/-- A tagged entry's DEFERRED REPLY at a loss of row power is offered (R140). -/
def replyNoPower (s : State) (e : FwdEntry) : State :=
  match e.tag with
  | some g => offerDeferred ⟨g, .noPower, false, [], e.unit⟩ s
  | none => s

theorem flushEntry_of_tag {e : FwdEntry} {g : Tag} (tag : e.tag = some g) (s : State) :
    flushEntry s e = offerDeferred ⟨g, .noPower, false, [], e.unit⟩ s := by
  rw [flushEntry, tag]
  exact endTagged_of_tag tag _ _ _ _

theorem flushEntry_of_none {e : FwdEntry} (untagged : e.tag = none) (s : State) :
    flushEntry s e = countForwardDrop s := by
  rw [flushEntry, untagged]

theorem flushEntry_sameUpstream {s t : State} (h : s.SameUpstream t) (e : FwdEntry) :
    (flushEntry s e).SameUpstream (replyNoPower t e) := by
  cases tag : e.tag with
  | some g =>
    rw [flushEntry_of_tag tag, replyNoPower, tag]
    exact offerDeferred_sameUpstream _ h
  | none =>
    rw [flushEntry_of_none tag, replyNoPower, tag]
    exact h

/-- The replies of a loss of row power are offered from head to tail (R140). -/
theorem foldl_flushEntry_sameUpstream (es : List FwdEntry) {s t : State} (h : s.SameUpstream t) :
    (es.foldl flushEntry s).SameUpstream (es.foldl replyNoPower t) := by
  induction es generalizing s t with
  | nil => exact h
  | cons e es ih => exact ih (flushEntry_sameUpstream h e)

/-- What the flush touches: the count of drops and the upstream queue (R137, R140). -/
def FlushFrame (s t : State) : Prop :=
  t = { s with
    counters := t.counters, upstream := t.upstream, noticesLost := t.noticesLost, lostSinceStart := t.lostSinceStart }

theorem FlushFrame.trans {s t u : State} (h : FlushFrame s t) (k : FlushFrame t u) : FlushFrame s u := by
  unfold FlushFrame at h k ⊢
  rw [k, h]

theorem flushEntry_flushFrame (s : State) (e : FwdEntry) : FlushFrame s (flushEntry s e) := by
  cases tag : e.tag with
  | some g =>
    rw [flushEntry_of_tag tag]
    have frame := offerDeferred_frame ⟨g, .noPower, false, [], e.unit⟩ s
    unfold UpstreamFrame at frame
    unfold FlushFrame
    rw [frame]
  | none =>
    rw [flushEntry_of_none tag]
    rfl

theorem foldl_flushEntry_frame (es : List FwdEntry) (s : State) : FlushFrame s (es.foldl flushEntry s) := by
  induction es generalizing s with
  | nil => rfl
  | cons e es ih => exact (flushEntry_flushFrame s e).trans (ih _)

/-- Each untagged entry is counted once, up to 255 (R22, R137, R140). -/
theorem foldl_flushEntry_counters (es : List FwdEntry) (s : State) :
    (es.foldl flushEntry s).counters = { s.counters with
      forwardDrops := if (es.filter fun e => e.tag.isNone).length = 0 then s.counters.forwardDrops
        else min (s.counters.forwardDrops + (es.filter fun e => e.tag.isNone).length) 255 } := by
  induction es generalizing s with
  | nil => rfl
  | cons e es ih =>
    rw [List.foldl_cons, ih]
    cases tag : e.tag with
    | some g =>
      have kept : (flushEntry s e).counters = s.counters := by
        rw [flushEntry_of_tag tag]
        have frame := offerDeferred_frame ⟨g, .noPower, false, [], e.unit⟩ s
        unfold UpstreamFrame at frame
        rw [frame]
      rw [kept, List.filter_cons_of_neg (by simp [tag])]
    | none =>
      have counted : (flushEntry s e).counters =
          { s.counters with forwardDrops := min (s.counters.forwardDrops + 1) 255 } := by
        rw [flushEntry_of_none tag]
        rfl
      rw [counted, List.filter_cons_of_pos (by simp [tag]), List.length_cons, if_neg (Nat.succ_ne_zero _)]
      refine congrArg (fun n => { s.counters with forwardDrops := n }) ?_
      dsimp only
      split <;> omega

/-- Every block at the loss of row power, before the forward queue is flushed (R34, R56, R126). -/
def lostState (v : State) : State :=
  suspendScan (rowMapLost (rowPortLost { v with power := { v.power with present := false } }))

theorem rowPowerLost_eq (v : State) :
    rowPowerLost v = raise .rowPowerLost (verifyLost (flushForward (lostState v))) := rfl

theorem lostState_lum (v : State) (a : Addr) :
    (lostState v).lum a = if v.isLum a then (v.lum a).lose else v.lum a :=
  rowMapLost_lum (rowPortLost { v with power := { v.power with present := false } }) a

theorem lostState_frame {v : State} (below : v.power.above = false) :
    lostState v = { v with
      power := ⟨false, false, v.power.since⟩, rowTx := .powerless, rowActivity := v.portTime
      emission := none, starvation := 0, lums := (lostState v).lums, pendingList := []
      scan := { v.scan with
        state := .suspended, next := none, onRow := false, disregard := false, urgent := false
        pending := false, pendingUrgent := false } } := by
  have frame : lostState v = { v with
      power := ⟨false, v.power.above, v.power.since⟩, rowTx := .powerless, rowActivity := v.portTime
      emission := none, starvation := 0, lums := (lostState v).lums, pendingList := []
      scan := { v.scan with
        state := .suspended, next := none, onRow := false, disregard := false, urgent := false
        pending := false, pendingUrgent := false } } := by
    simp only [lostState, suspendScan, clearPending, endScan, rowMapLost, State.mapLuminaires, rowPortLost]
  rwa [below] at frame

theorem lostState_forward (v : State) : (lostState v).forward = v.forward := by
  simp only [lostState, suspendScan, clearPending, endScan, rowMapLost, State.mapLuminaires, rowPortLost]

/-- The state in which ROW POWER LOST is raised, with its forward queue flushed and its windows closed (R140, R153). -/
def flushedState (v : State) : State :=
  verifyLost (v.forward.foldl flushEntry { lostState v with forward := [] })

theorem verifyLost_flushForward (v : State) : verifyLost (flushForward (lostState v)) = flushedState v := by
  unfold flushForward flushedState
  rw [lostState_forward]

theorem flushedState_frame {v : State} (below : v.power.above = false) :
    flushedState v = { v with
      power := ⟨false, false, v.power.since⟩, rowTx := .powerless, rowActivity := v.portTime
      emission := none, starvation := 0, lums := (lostState v).lums, pendingList := []
      scan := { v.scan with
        state := .suspended, next := none, onRow := false, disregard := false, urgent := false
        pending := false, pendingUrgent := false }
      forward := [], counters := (flushedState v).counters
      verify := { v.verify with record := none, alignRecord := none }
      upstream := (flushedState v).upstream, noticesLost := (flushedState v).noticesLost
      lostSinceStart := (flushedState v).lostSinceStart } := by
  have flushed := foldl_flushEntry_frame v.forward { lostState v with forward := [] }
  have lost := lostState_frame below
  unfold flushedState
  generalize v.forward.foldl flushEntry { lostState v with forward := [] } = t at flushed ⊢
  generalize lostState v = u at flushed lost ⊢
  unfold FlushFrame at flushed
  rw [flushed, lost]
  rfl

theorem flushedState_counters {v : State} (below : v.power.above = false) :
    (flushedState v).counters = { v.counters with
      forwardDrops := if (v.forward.filter fun e => e.tag.isNone).length = 0 then v.counters.forwardDrops
        else min (v.counters.forwardDrops + (v.forward.filter fun e => e.tag.isNone).length) 255 } := by
  have kept : (lostState v).counters = v.counters := by
    rw [lostState_frame below]
  rw [← kept]
  exact foldl_flushEntry_counters v.forward { lostState v with forward := [] }

theorem flushedState_sameUpstream {v : State} (below : v.power.above = false) :
    (flushedState v).SameUpstream (v.forward.foldl replyNoPower v) := by
  have kept : State.SameUpstream { lostState v with forward := [] } v := by
    rw [lostState_frame below]
    exact ⟨rfl, rfl, rfl⟩
  exact foldl_flushEntry_sameUpstream v.forward kept

theorem rowPowerLost_frame {v : State} (below : v.power.above = false) :
    rowPowerLost v = raise .rowPowerLost (flushedState v) ∧ UpstreamFrame (flushedState v) (rowPowerLost v) := by
  have suspended : (flushedState v).scan.state = .suspended := by
    rw [flushedState_frame below]
  have raised : rowPowerLost v = raise .rowPowerLost (flushedState v) := by
    rw [rowPowerLost_eq, verifyLost_flushForward]
  refine ⟨raised, ?_⟩
  rw [raised, raise_of_suspended suspended]
  exact noticeOf_frame _ _

/-- Settles O51: what every block is after the loss of row power, and the replies offered by the way. -/
theorem powerLossActsAfterItsMeasurement : Obligations.PowerLossActsAfterItsMeasurement := by
  refine ⟨fun after s => ?_, fun after s => ?_⟩
  · intro v due
    have exec_eq : exec (.rowPowerAbsent after) s = .next (losePower v) := rfl
    refine ⟨fun early => ?early, fun now => ⟨rowPowerLost v, _, ?now, rfl, ?rest⟩⟩
    case early => rw [exec_eq, losePower, if_neg fun h => early ((absentDue_iff v).mp h)]
    case now => rw [exec_eq, losePower, if_pos ((absentDue_iff v).mpr now)]
    case rest =>
      have below : v.power.above = false := now.2.1
      have frame := (rowPowerLost_frame below).2
      have flushed := flushedState_frame below
      have counters := flushedState_counters below
      have lum := lostState_lum v
      generalize rowPowerLost v = t at frame ⊢
      generalize flushedState v = w at frame flushed counters
      generalize lostState v = u at flushed lum
      unfold UpstreamFrame at frame
      have whole : t = { v with
          power := ⟨false, false, v.power.since⟩, rowTx := .powerless, rowActivity := v.portTime
          emission := none, starvation := 0, lums := u.lums, pendingList := []
          scan := { v.scan with
            state := .suspended, next := none, onRow := false, disregard := false, urgent := false
            pending := false, pendingUrgent := false }
          forward := [], counters := w.counters
          verify := { v.verify with record := none, alignRecord := none }
          upstream := t.upstream, noticesLost := t.noticesLost, lostSinceStart := t.lostSinceStart } := by
        rw [flushed] at frame
        exact frame
      rw [whole]
      exact ⟨rfl, rfl, rfl, rfl, rfl, rfl, rfl, lum, rfl, rfl, rfl, rfl, rfl, rfl, rfl, rfl, rfl, rfl, counters, rfl, rfl,
        rfl, rfl, rfl, rfl, rfl, rfl, rfl⟩
  · intro v present below elapsed replied
    have exec_eq : exec (.rowPowerAbsent after) s = .next (losePower v) := rfl
    obtain ⟨queue, lost, since⟩ := flushedState_sameUpstream below
    have raised := (rowPowerLost_frame below).1
    have flushed := flushedState_frame below
    refine ⟨rowPowerLost v, ?_, flushedState v, ?_, ?_, ?_, queue, lost, since, congrArg State.upstream raised,
      congrArg State.noticesLost raised, congrArg State.lostSinceStart raised⟩
    · rw [exec_eq, losePower, if_pos ((absentDue_iff v).mpr ⟨present, below, elapsed⟩)]
    · rw [flushed]
    · rw [flushed]
    · rw [flushed]

end Sys2Proof.Machine

namespace Sys2Proof.Machine

/-! ## Management answers, restart and the store (O52) -/

theorem storeBusy_iff (s : State) : s.storeBusy = true ↔ s.store.writing ≠ none := Option.isSome_iff_ne_none

theorem not_storeBusy {s : State} (free : s.store.writing = none) : ¬ s.storeBusy = true := by
  rw [storeBusy_iff, free]
  exact fun h => h rfl

theorem crc16_append (bs : List Byte) (b : Byte) : crc16 (bs ++ [b]) = crc16Byte (crc16 bs) b := List.foldl_append

/-- A table's bytes are those of its entries by index. -/
theorem flatMap_toList {α : Type} {n : Nat} (v : Vector α n) (bytes : α → List Byte) (entry : Nat → Option (List Byte))
    (entries : ∀ i (below : i < n), entry i = some (bytes v[i])) :
    v.toList.flatMap bytes = (List.range n).flatMap fun i => (entry i).getD [] := by
  have listed : v.toList.map bytes = (List.range n).map fun i => (entry i).getD [] := by
    refine List.ext_getElem (by simp) fun i left right => ?_
    have below : i < n := by simpa using right
    simp [entries i below]
  rw [List.flatMap_def, List.flatMap_def, listed]

/-- The bytes under the store's check, table by table as they are read (R165; log entry 7). -/
theorem tables_bytes (s : State) :
    s.tables.bytes =
      ([(1, 64), (2, 16), (3, 8), (4, 16), (5, 16), (6, 11), (7, 1)] : List (Nat × Nat)).flatMap fun x =>
        (List.range x.2).flatMap fun i => (readEntry s x.1 i).getD [] := by
  have rows := flatMap_toList s.tables.rowMap rowBytes (readEntry s 1) fun _ below => dif_pos below
  have zones := flatMap_toList s.tables.zones zoneBytes (readEntry s 2) fun _ below => dif_pos below
  have channels := flatMap_toList s.tables.channels channelBytes (readEntry s 3) fun _ below => dif_pos below
  have coeffs := flatMap_toList s.tables.coeffs coeffBytes (readEntry s 4) fun _ below => dif_pos below
  have groups := flatMap_toList s.tables.groups bytes64 (readEntry s 5) fun _ below => dif_pos below
  have routes := flatMap_toList s.tables.routes routeBytes (readEntry s 6) fun _ below => dif_pos below
  have settings : settingsBytes s.settings = (List.range 1).flatMap fun i => (readEntry s 7 i).getD [] :=
    (List.append_nil _).symm
  unfold Tables.bytes
  rw [rows, zones, channels, coeffs, groups, routes, show settingsBytes s.tables.settings = _ from settings]
  simp only [List.flatMap_cons, List.flatMap_nil, List.append_nil, List.append_assoc]

theorem all_toList_iff {α : Type} {n : Nat} (v : Vector α n) (p : α → Bool) :
    v.toList.all p = true ↔ ∀ i : Fin n, p v[i.val] = true := by
  simp only [List.all_eq_true, Vector.mem_toList_iff, Vector.mem_iff_getElem]
  exact ⟨fun h i => h _ ⟨i.val, i.isLt, rfl⟩, fun h _ ⟨i, below, at_⟩ => at_ ▸ h ⟨i, below⟩⟩

/-- Every field of tables 1 to 7 is within its range, field by field (R165). -/
theorem tables_inRange_iff (s : State) : s.tables.inRange = true ↔
    (∀ a, 1 ≤ (s.row a).pmin ∧ (s.row a).pmin ≤ 250) ∧
    (∀ z, let c := s.zoneConfig z
      c.target ≤ 2000 ∧ 1 ≤ c.slewUp ∧ c.slewUp ≤ 1000 ∧ 1 ≤ c.slewDown ∧ c.slewDown ≤ 1000 ∧
        c.deadBand ≤ 100 ∧ c.offDwell ≤ 3600) ∧
    (∀ c, (s.channelConfig c).k ≤ 4095) ∧
    (∀ z c, s.coeff z c ≤ 4095) ∧
    (∀ k : Fin 11, s.tables.routes[k.val].priority ≤ 7) ∧
    (let c := s.settings
     c.first ≤ c.last ∧ 250 ≤ c.period ∧ c.period ≤ 60000 ∧ 50 ≤ c.threshold ∧ c.threshold ≤ 1000 ∧
       1 ≤ c.staleLimit ∧ c.staleLimit ≤ 15 ∧ 1 ≤ c.recoverLimit ∧ c.recoverLimit ≤ 15 ∧
       200 ≤ c.verifyInterval ∧ c.verifyInterval ≤ 60000) := by
  have rows := all_toList_iff s.tables.rowMap RowConfig.inRange
  have zones := all_toList_iff s.tables.zones ZoneConfig.inRange
  have channels := all_toList_iff s.tables.channels ChannelConfig.inRange
  have coeffs := all_toList_iff s.tables.coeffs (fun r => r.toList.all fun c => decide (c ≤ 4095))
  have row := fun z : ZoneId => all_toList_iff s.tables.coeffs[z.val] fun c => decide (c ≤ 4095)
  have routes := all_toList_iff s.tables.routes Route.inRange
  simp only [row] at coeffs
  rw [Tables.inRange, Bool.and_eq_true, Bool.and_eq_true, Bool.and_eq_true, Bool.and_eq_true, Bool.and_eq_true,
    rows, zones, channels, coeffs, routes]
  simp only [RowConfig.inRange, ZoneConfig.inRange, ChannelConfig.inRange, Route.inRange, Settings.inRange,
    decide_eq_true_eq, and_assoc]
  exact Iff.rfl

theorem endWriteIfOver_of_writing {s : State} {w : StoreWrite} (writing : s.store.writing = some w) (found : ReadBack) :
    endWriteIfOver found s = if 600 ≤ w.start.interval s.clock then endWrite w found s else s := by
  have over_iff : writeOver s w = true ↔ 600 ≤ w.start.interval s.clock := decide_eq_true_iff
  rw [endWriteIfOver, writing]
  exact ite_congr_iff over_iff rfl rfl

theorem endWrite_eq (w : StoreWrite) (found : ReadBack) (s : State) :
    endWrite w found s = raise (.storeResult (if foundImage w found = w.image then .done else .failed))
      { s with store := ⟨some (foundImage w found), none, if foundImage w found = w.image then .done else .failed⟩ } := rfl

/-- Settles O52: the answer, restart and unknown operations, the store, its check, and the ranges it keeps. -/
theorem managementAnswersRestartAndStore : Obligations.ManagementAnswersRestartAndStore := by
  refine ⟨⟨fun req st fresh data s => ?respond, ⟨rfl, rfl, rfl, rfl, rfl, rfl, rfl, rfl⟩, fun after req op s =>
      ⟨rfl, fun busy => ?_, fun free => ?_⟩⟩,
    fun after req found s => ⟨fun busy => ?_, fun free => ?_, fun none => ?none, fun w writing => ?writing⟩,
    fun i => ?passes, ⟨rfl, fun bs b => ?crc⟩, tables_bytes, tables_inRange_iff⟩
  case respond =>
    unfold respond
    cases req.dest <;> cases fresh <;> rfl
  · exact congrArg (fun r => Host.Outcome.next (respond req r)) (if_pos ((storeBusy_iff _).mpr busy))
  · exact congrArg (fun r => Host.Outcome.next (respond req r)) (if_neg (not_storeBusy free))
  · exact congrArg (fun r => Host.Outcome.next (respond req r)) (if_pos ((storeBusy_iff _).mpr busy))
  · exact congrArg (fun r => Host.Outcome.next (respond req r)) (if_neg (not_storeBusy free))
  case none =>
    refine congrArg (fun t => Host.Outcome.next (arbitrate t)) ?_
    rw [endWriteIfOver, none]
  case writing =>
    have ends := endWriteIfOver_of_writing writing found
    refine ⟨fun early => congrArg (fun t => Host.Outcome.next (arbitrate t)) ?_,
      fun late => congrArg (fun t => Host.Outcome.next (arbitrate t)) ?_⟩
    · exact ends.trans (if_neg (Nat.not_le.mpr early))
    · rw [ends, if_pos late, endWrite_eq]
      cases found <;> rfl
  case passes =>
    rw [StoreImage.passes, Bool.and_eq_true, beq_iff_eq]
    exact and_comm
  case crc =>
    rw [crc16_append]
    rfl

end Sys2Proof.Machine

namespace Sys2Proof.Machine

/-! ## Reads and the snapshot buffer (O53) -/

theorem toNat_eq_iff (b : Byte) {n : Nat} (below : n < 256) : b.toNat = n ↔ b = BitVec.ofNat 8 n := by
  rw [← BitVec.toNat_inj, BitVec.toNat_ofNat, Nat.mod_eq_of_lt below]

theorem readPart0_of_none {s : State} {table index : Nat} (none : readEntry s table index = .none) (part : Nat) :
    readPart0 table index part s = (.plain .range, s) := by
  rw [readPart0, none]

theorem readPart0_of_some {s : State} {table index : Nat} {bytes : List Byte}
    (entry : readEntry s table index = some bytes) (part : Nat) :
    readPart0 table index part s = if part ≠ 0 then (.plain .range, s)
      else (⟨.ok, false, bytes.take (firstPartLength table)⟩,
        { s with snapshot := some (.entry table index bytes) }) := by
  rw [readPart0, entry]

theorem readPart1_of_none {s : State} {table index : Nat} (none : readEntry s table index = .none) :
    readPart1 table index s = (.plain .range, s) := by
  rw [readPart1, none]

theorem readPart1_of_whole {s : State} {table : Nat} (whole : hasTwoParts table = false) (index : Nat) :
    readPart1 table index s = (.plain .range, s) := by
  unfold readPart1
  split
  · rfl
  · rw [if_pos whole]

theorem readPart1_of_some {s : State} {table index : Nat} {bytes : List Byte}
    (entry : readEntry s table index = some bytes) (two : hasTwoParts table = true) :
    readPart1 table index s = match matchingCapture s table index with
      | some held => (⟨.ok, false, held.drop (firstPartLength table)⟩, s)
      | none => (⟨.ok, true, bytes.drop (firstPartLength table)⟩, s) := by
  rw [readPart1, entry]
  exact if_neg (by rw [two]; nofun)

/-- The buffer serves a part 1 exactly when it holds a capture of the same entry (R162). -/
theorem matchingCapture_eq_some {s : State} {table index : Nat} {held : List Byte} :
    matchingCapture s table index = some held ↔ s.snapshot = some (.entry table index held) := by
  unfold matchingCapture
  split
  · next t i bytes snapshot =>
    rw [snapshot]
    by_cases same : t = table ∧ i = index
    · rw [if_pos same, same.1, same.2]
      simp
    · rw [if_neg same]
      simp only [reduceCtorEq, Option.some.injEq, Capture.entry.injEq, false_iff]
      exact fun h => same ⟨h.1, h.2.1⟩
  · next snapshot => simp [snapshot]
  · next snapshot => simp [snapshot]

theorem hasTwoParts_iff (table : Byte) : hasTwoParts table.toNat = true ↔ table = 4 ∨ table = 8 := by
  rw [hasTwoParts, Bool.or_eq_true, beq_iff_eq, beq_iff_eq, toNat_eq_iff table (by decide),
    toNat_eq_iff table (by decide)]
  exact Iff.rfl

theorem firstPartLength_eq (table : Byte) :
    firstPartLength table.toNat = if table = 4 then 8 else if table = 8 then 6 else 10 := by
  have four : table.toNat = 4 ↔ table = 4 := toNat_eq_iff table (by decide)
  have eight : table.toNat = 8 ↔ table = 8 := toNat_eq_iff table (by decide)
  unfold firstPartLength
  split
  · next code => exact (if_pos (four.mp code)).symm
  · next code =>
    rw [if_neg fun h => absurd (code.symm.trans (four.mpr h)) (by decide)]
    exact (if_pos (eight.mp code)).symm
  · next notFour notEight =>
    rw [if_neg fun h => notFour (four.mpr h), if_neg fun h => notEight (eight.mpr h)]

theorem toList_eight {α : Type} (v : Vector α 8) : v.toList = [v[0], v[1], v[2], v[3], v[4], v[5], v[6], v[7]] := by
  obtain ⟨⟨l⟩, size⟩ := v
  match l, size with
  | [_, _, _, _, _, _, _, _], _ => rfl

/-- A table or an index that does not exist has no entry (R161). -/
theorem readEntry_eq_none (s : State) {table index : Nat}
    (outside : table = 0 ∨ 10 < table ∨
      ((table = 1 ∨ table = 10) ∧ 64 ≤ index) ∨
      ((table = 2 ∨ table = 4 ∨ table = 5 ∨ table = 8) ∧ 16 ≤ index) ∨
      ((table = 3 ∨ table = 9) ∧ 8 ≤ index) ∨
      (table = 6 ∧ 11 ≤ index) ∨ (table = 7 ∧ 1 ≤ index)) : readEntry s table index = none := by
  unfold readEntry
  split
  case h_7 => exact if_neg (by omega)
  case h_11 => rfl
  all_goals exact dif_neg (by omega)

theorem scanBytes_eq (c : Scan) :
    scanBytes c = [byte (scanStateCode c.state),
      byte (flagBit c.urgent 0 + flagBit c.pending 1 + flagBit c.pendingUrgent 2 +
        (if c.state = .scanning ∨ c.state = .stopping then
          (match (if c.onRow then c.lastQueried else c.next) with
           | some x => x.val
           | none => 0)
        else 0) * 16)] := by
  have channel : (c.channel.map (·.val)).getD 0 = match (if c.onRow then c.lastQueried else c.next) with
      | some x => x.val
      | none => 0 := by
    rw [show c.channel = if c.onRow then c.lastQueried else c.next from rfl]
    cases (if c.onRow then c.lastQueried else c.next) <;> rfl
  unfold scanBytes
  rw [channel]
  cases c.state <;> rfl

theorem harvesting_iff_exists (s : State) : s.harvesting = true ↔ ∃ a, s.isLum a = true := any_addresses_iff _

theorem skyCode_eq (x : Option ChannelId) : skyCode x = match x with
    | some c => c.val
    | none => 15 := by
  cases x <;> rfl

/-- Settles O53: the reads by part and status, and the bytes of every entry and of the status. -/
theorem readsUseTheSnapshotBuffer : Obligations.ReadsUseTheSnapshotBuffer := by
  refine ⟨fun after number table index part s => ?reads, fun s => ?bytes⟩
  case reads =>
    intro v own every range first second entry captured status
    have zero : part.toNat = 0 ↔ part = 0 := toNat_eq_iff part (by decide)
    have part0 : exec (.readEntryPart0 after own table index part) s =
        .next (respond own (readPart0 table.toNat index.toNat part.toNat v)) := rfl
    have part1 : exec (.readEntryPart1 after own table index) s =
        .next (respond own (readPart1 table.toNat index.toNat v)) := rfl
    have status0 : exec (.readStatusPart0 after own part) s = .next (respond own (readStatus0 part.toNat v)) := rfl
    refine ⟨rfl, rfl, rfl, rfl, fun refused => ?_, fun bytes found whole => ?_, fun refused => ?_,
      fun bytes found two => ⟨fun held holds => ?_, fun other => ?_⟩, fun other => ?_, fun whole => ?_, ?_⟩
    · rw [part0]
      cases found : entry with
      | none => rw [readPart0_of_none found]; rfl
      | some bytes =>
        have other : part ≠ 0 := refused.resolve_left (by rw [found]; nofun)
        rw [readPart0_of_some found, if_pos fun h => other (zero.mp h)]
        rfl
    · rw [part0, readPart0_of_some found, if_neg (not_not_intro (zero.mpr whole)), firstPartLength_eq]
      refine congrArg (fun b => Host.Outcome.next (respond own (⟨.ok, false, b⟩, _))) ?_
      show _ = if table = 4 then bytes.take 8 else if table = 8 then bytes.take 6 else bytes.take 10
      split
      · rfl
      · split <;> rfl
    · rw [part1]
      obtain none | ⟨notFour, notEight⟩ := refused
      · rw [readPart1_of_none none]
        rfl
      · rw [readPart1_of_whole (Bool.eq_false_iff.mpr fun h => ((hasTwoParts_iff table).mp h).elim notFour notEight)]
        rfl
    · have drops : held.drop (firstPartLength table.toNat) = second held := by
        rw [firstPartLength_eq]
        obtain four | eight := two
        · rw [if_pos four]
          exact (if_pos four).symm
        · subst eight
          rfl
      rw [part1, readPart1_of_some found ((hasTwoParts_iff table).mpr two), matchingCapture_eq_some.mpr holds, ← drops]
    · have drops : bytes.drop (firstPartLength table.toNat) = second bytes := by
        rw [firstPartLength_eq]
        obtain four | eight := two
        · rw [if_pos four]
          exact (if_pos four).symm
        · subst eight
          rfl
      have nothing : matchingCapture v table.toNat index.toNat = none :=
        Option.eq_none_iff_forall_ne_some.mpr fun held holds => other held (matchingCapture_eq_some.mp holds)
      rw [part1, readPart1_of_some found ((hasTwoParts_iff table).mpr two), nothing, ← drops]
    · rw [status0, readStatus0, if_pos fun h => other (zero.mp h)]
      rfl
    · rw [status0, readStatus0, if_neg (not_not_intro (zero.mpr whole))]
    · have fresh : (!holdsStatus v) = match v.snapshot with
          | some (.status _) => false
          | _ => true := by
        unfold holdsStatus
        cases v.snapshot with
        | none => rfl
        | some c => cases c <;> rfl
      exact congrArg (fun b => Host.Outcome.next (respond own
        (⟨.ok, b, counterBytes v⟩, { v with counters := .zero }))) fresh
  case bytes =>
    intro weight pair
    refine ⟨fun n => ⟨rfl, rfl⟩, ?_⟩
    intro zone unit
    refine ⟨fun a => ⟨?row, ?lum⟩, fun z => ⟨?zoneConfig, ?coeffs, ?zoneStatus⟩, fun c => ⟨?channel, ?channelStatus⟩,
      fun g => ?group, fun i => ?route, ?settings, fun table index outside => readEntry_eq_none s outside,
      harvesting_iff_exists s, ?status⟩
    case row =>
      refine (dif_pos a.isLt).trans (congrArg some ?_)
      show rowBytes (s.row a) = _
      generalize s.row a = r
      obtain ⟨role, zone, pmin⟩ := r
      cases role <;> cases zone <;> rfl
    case lum =>
      refine (dif_pos a.isLt).trans (congrArg some ?_)
      show lumBytes (s.lum a) = _
      generalize s.lum a = l
      unfold lumBytes
      cases l.shadow <;> rfl
    case zoneConfig => exact (dif_pos z.isLt).trans (congrArg some rfl)
    case coeffs =>
      refine (dif_pos z.isLt).trans (congrArg some ?_)
      show coeffBytes s.tables.coeffs[z.val] = _
      rw [coeffBytes, toList_eight]
      rfl
    case zoneStatus =>
      refine (dif_pos z.isLt).trans (congrArg some ?_)
      show zoneStatusBytes (s.zone z) = _
      generalize s.zone z = v
      unfold zoneStatusBytes zoneFlags
      cases v.mode <;> cases v.zeroSince <;> rfl
    case channel =>
      refine (dif_pos c.isLt).trans (congrArg some ?_)
      show channelBytes (s.channelConfig c) = _
      generalize s.channelConfig c = r
      obtain ⟨unit, k⟩ := r
      cases unit <;> rfl
    case channelStatus =>
      refine (dif_pos c.isLt).trans (congrArg some ?_)
      show channelStatusBytes (s.channel c) = _
      generalize s.channel c = v
      unfold channelStatusBytes
      cases v.health <;> rfl
    case group => exact dif_pos g.isLt
    case route => exact (dif_pos i.isLt).trans (congrArg some rfl)
    case settings =>
      have entry : readEntry s 7 0 = some (settingsBytes s.settings) := rfl
      refine entry.trans (congrArg some ?_)
      generalize s.settings = t
      unfold settingsBytes
      cases t.mode <;> cases t.sky <;> rfl
    case status =>
      refine ⟨scanBytes_eq s.scan, ?_⟩
      unfold statusBytes
      rw [scanBytes_eq]
      cases s.store.last <;> rfl

end Sys2Proof.Machine

namespace Sys2Proof.Machine

/-! ## WRITE ENTRY settled in the order of R156 (O54) -/

section
variable {α : Type} {n : Nat} {index : Byte} {parsed : Option α} {allowed : Fin n → α → State → Bool}
  {apply : Fin n → α → State → State} {s : State}

theorem writeTable_of_outside (outside : n ≤ index.toNat) :
    writeTable n index parsed allowed apply s = (.plain .range, s) := dif_neg (Nat.not_lt.mpr outside)

theorem writeTable_of_busy (inside : index.toNat < n) (busy : s.store.writing ≠ none) :
    writeTable n index parsed allowed apply s = (.plain .busy, s) :=
  (dif_pos inside).trans (if_pos ((storeBusy_iff s).mpr busy))

/-- Past the tests of index and store, the fields and then the state decide. -/
theorem writeTable_of_free (inside : index.toNat < n) (free : ¬ s.store.writing ≠ none) :
    writeTable n index parsed allowed apply s = match parsed with
      | none => (.plain .range, s)
      | some v => if allowed ⟨index.toNat, inside⟩ v s then (.plain .ok, apply ⟨index.toNat, inside⟩ v s)
          else (.plain .refused, s) :=
  (dif_pos inside).trans (if_neg fun busy => free ((storeBusy_iff s).mp busy))

theorem writeTable_of_unparsed (inside : index.toNat < n) (free : ¬ s.store.writing ≠ none) (unparsed : parsed = none) :
    writeTable n index parsed allowed apply s = (.plain .range, s) := by
  rw [writeTable_of_free inside free, unparsed]

theorem writeTable_of_refused (inside : index.toNat < n) (free : ¬ s.store.writing ≠ none) {v : α}
    (parses : parsed = some v) (forbids : ¬ allowed ⟨index.toNat, inside⟩ v s = true) :
    writeTable n index parsed allowed apply s = (.plain .refused, s) := by
  rw [writeTable_of_free inside free, parses]
  exact if_neg forbids

theorem writeTable_of_allowed (inside : index.toNat < n) (free : ¬ s.store.writing ≠ none) {v : α}
    (parses : parsed = some v) (allows : allowed ⟨index.toNat, inside⟩ v s = true) :
    writeTable n index parsed allowed apply s = (.plain .ok, apply ⟨index.toNat, inside⟩ v s) := by
  rw [writeTable_of_free inside free, parses]
  exact if_pos allows

end

/-! ## Plain storage (O54) -/

/-- A route entry is taken when both its bytes are in range (R158). -/
theorem parseRoute_eq (e : BitVec 16) :
    parseRoute e = if e.toNat / 256 ≤ 7 ∧ e.toNat % 256 ≤ 1 then some ⟨e.toNat / 256, e.toNat % 256 == 1⟩
      else none := by
  have high : entryByte 2 e 0 = e.toNat / 256 := by
    show e.toNat / 256 ^ 1 % 256 = _
    omega
  have low : entryByte 2 e 1 = e.toNat % 256 := by
    show e.toNat / 256 ^ 0 % 256 = _
    omega
  unfold parseRoute
  rw [high, low]
  refine ite_congr_iff ?_ rfl rfl
  rw [Bool.and_eq_true, Route.inRange, decide_eq_true_iff, decide_eq_true_iff]

theorem tableSize_eq (n : Nat) :
    tableSize n = if n = 1 ∨ n = 10 then 64
      else if n = 2 ∨ n = 4 ∨ n = 5 ∨ n = 8 then 16
      else if n = 3 ∨ n = 9 then 8
      else if n = 6 then 11
      else if n = 7 then 1
      else 0 := by
  unfold tableSize
  split
  case h_11 => grind
  all_goals rfl

section
variable {zone channelByte : Byte} {values : List (BitVec 16)} {s : State}

theorem loadCoefficients_of_outside
    (outside : 16 ≤ zone.toNat ∨ 8 ≤ loadFirst channelByte ∨ 8 < loadFirst channelByte + loadCount channelByte) :
    loadCoefficients zone channelByte values s = (.plain .range, s) := by
  unfold loadCoefficients
  by_cases h : zone.toNat < 16
  · exact (dif_pos h).trans (if_pos (by omega))
  · exact dif_neg h

variable (inside : zone.toNat < 16) (first : loadFirst channelByte < 8)
  (last : loadFirst channelByte + loadCount channelByte ≤ 8)
include inside first last

theorem loadCoefficients_of_busy (busy : s.store.writing ≠ none) :
    loadCoefficients zone channelByte values s = (.plain .busy, s) :=
  (dif_pos inside).trans ((if_neg (by omega)).trans (if_pos ((storeBusy_iff s).mpr busy)))

theorem loadCoefficients_of_free (free : s.store.writing = none) (count : values.length = loadCount channelByte) :
    loadCoefficients zone channelByte values s =
      if ∃ x ∈ values, 4095 < x.toNat then (.plain .range, s)
      else (.plain .ok, { s with tables := { s.tables with
        coeffs := s.tables.coeffs.set zone.toNat (loadedRow s.tables.coeffs[zone.toNat] (loadFirst channelByte)
          (loadCount channelByte) (loadClears channelByte) values) } }) := by
  refine (dif_pos inside).trans ((if_neg (by omega)).trans ((if_neg (not_storeBusy free)).trans (ite_congr_iff ?_ rfl rfl)))
  rw [List.take_of_length_le (Nat.le_of_eq count), List.any_eq_true]
  exact exists_congr fun x => and_congr_right fun _ => decide_eq_true_iff

end

theorem getElem_loadedRow (row : Vector Nat 8) (first n : Nat) (clear : Bool) (values : List (BitVec 16)) (c : ChannelId) :
    (loadedRow row first n clear values)[c.val] =
      if first ≤ c.val ∧ c.val < first + n then ((values[c.val - first]?).map BitVec.toNat).getD row[c.val]
      else if clear = true ∧ first + n ≤ c.val then 0
      else row[c.val] := Vector.getElem_ofFn c.isLt

theorem loadClears_iff (b : Byte) : loadClears b = true ↔ 128 ≤ b.toNat := by
  rw [loadClears, ← BitVec.msb_eq_getLsbD_last (w := 8)]
  exact BitVec.msb_eq_true_iff_two_mul_ge.trans (by omega)

/-- The loaded row, field by field, for a load that brings all its values. -/
theorem getElem_loadedRow_of_length (row : Vector Nat 8) (first : Nat) (clear : Byte) {values : List (BitVec 16)} {n : Nat}
    (count : values.length = n) (c : ChannelId) :
    (loadedRow row first n (loadClears clear) values)[c.val] =
      if c.val < first then row[c.val]
      else if c.val < first + n then ((values[c.val - first]?).map BitVec.toNat).getD 0
      else if 128 ≤ clear.toNat then 0 else row[c.val] := by
  rw [getElem_loadedRow]
  by_cases below : c.val < first
  · rw [if_neg (by omega), if_neg (by omega), if_pos below]
  · rw [if_neg below]
    by_cases loaded : c.val < first + n
    · rw [if_pos ⟨by omega, loaded⟩, if_pos loaded, List.getElem?_eq_getElem (by omega)]
      rfl
    · rw [if_neg (by omega), if_neg loaded]
      exact ite_congr_iff (by rw [loadClears_iff]; omega) rfl rfl

/-- Settles O54: the tables that are plain storage, the tables not written this way, and LOAD COEFFICIENTS. -/
theorem writesOfStoredTables : Obligations.WritesOfStoredTables := by
  refine ⟨fun after req table index group route s => ?_, fun after req zone channelByte values s => ?_⟩
  · intro v plain busy n size
    have writes : exec (.writeTrunkGroupMap after req index group) s = .next (respond req (writeGroup index group v)) ∧
        exec (.writeEventRoute after req index route) s = .next (respond req (writeRoute index route v)) ∧
        exec (.writeEntryReadOnly after req table index) s = .next (respond req (writeReadOnly table index v)) :=
      ⟨rfl, rfl, rfl⟩
    obtain ⟨writesGroup, writesRoute, writesOther⟩ := writes
    have size_eq : tableSize table.toNat = size := tableSize_eq n
    rw [writesGroup, writesRoute, writesOther, writeReadOnly, size_eq]
    have answers {p q : Reply × State} (same : p = q) :
        (Host.Outcome.next (respond req p) : Host.Outcome State Fault Refusal) = .next (respond req q) :=
      congrArg (fun r => Host.Outcome.next (respond req r)) same
    refine ⟨fun outside => answers (writeTable_of_outside outside), fun inside =>
      ⟨fun isBusy => answers (writeTable_of_busy inside isBusy),
        fun free => answers (writeTable_of_allowed inside free rfl rfl)⟩,
      fun outside => answers (writeTable_of_outside outside), fun inside => ?_,
      fun inside => answers (if_pos inside), fun outside => answers (if_neg (Nat.not_lt.mpr outside))⟩
    intro priority rescan
    refine ⟨fun isBusy => answers (writeTable_of_busy inside isBusy), fun free bad => ?_, fun free low flag => ?_⟩
    · exact answers (writeTable_of_unparsed inside free ((parseRoute_eq route).trans (if_neg (by omega))))
    · exact answers (writeTable_of_allowed inside free ((parseRoute_eq route).trans (if_pos ⟨low, flag⟩)) rfl)
  · intro v plain f n clear load count
    have answers {p q : Reply × State} (same : p = q) :
        (Host.Outcome.next (respond req p) : Host.Outcome State Fault Refusal) = .next (respond req q) :=
      congrArg (fun r => Host.Outcome.next (respond req r)) same
    have loads : load = .next (respond req (loadCoefficients zone channelByte values v)) := rfl
    rw [loads]
    refine ⟨fun outside => answers (loadCoefficients_of_outside outside), fun inside first last =>
      ⟨fun busy => answers (loadCoefficients_of_busy inside first last busy), fun free big => ?_, fun free small => ?_⟩⟩
    · exact answers ((loadCoefficients_of_free inside first last free count).trans (if_pos big))
    · have small' : ¬ ∃ x ∈ values, 4095 < x.toNat := fun ⟨x, member, big⟩ => Nat.not_lt.mpr (small x member) big
      refine ⟨_, answers ((loadCoefficients_of_free inside first last free count).trans (if_neg small')), rfl,
        fun z c => ?_⟩
      show (v.tables.coeffs.set zone.toNat _)[z.val][c.val] = _
      by_cases same : z.val = zone.toNat
      · have row : v.coeff z c = v.tables.coeffs[zone.toNat][c.val] := by
          simp only [State.coeff, same]
        simp only [← same, Vector.getElem_set_self]
        rw [getElem_loadedRow_of_length _ _ _ (n := loadCount channelByte) count, row]
        simp only [ne_eq, same, not_true_eq_false, false_or]
        rfl
      · rw [Vector.getElem_set_ne _ _ (fun e => same e.symm), if_pos (.inl same)]
        rfl

end Sys2Proof.Machine

namespace Sys2Proof.Machine

/-! ## The row map write (O55) -/

/-- R38: a role is not taken away from a SENSOR that a channel names. -/
theorem not_rowWriteAllowed_iff (a : Addr) (r : RowConfig) (s : State) :
    ¬ rowWriteAllowed a r s = true ↔
      (s.row a).role = .sensor ∧ r.role ≠ .sensor ∧ ∃ c, (s.channelConfig c).unit = some a := by
  rw [rowWriteAllowed, Bool.not_eq_true', Bool.not_eq_false, Bool.and_eq_true, Bool.and_eq_true, beq_iff_eq, bne_iff_ne,
    List.any_eq_true, and_assoc]
  exact and_congr_right fun _ => and_congr_right fun _ =>
    ⟨fun ⟨c, _, named⟩ => ⟨c, beq_iff_eq.mp named⟩, fun ⟨c, named⟩ => ⟨c, mem_channelIds c, beq_iff_eq.mpr named⟩⟩

section
variable {s : State} {a : Addr} {r : RowConfig}

theorem applyRowWrite_of_other (old : (s.row a).role ≠ .luminaire) (new : r.role ≠ .luminaire) :
    applyRowWrite a r s = s.setRow a r := by
  simp only [applyRowWrite, beq_eq_false_iff_ne.mpr old, beq_eq_false_iff_ne.mpr new]

theorem applyRowWrite_of_leaving (old : (s.row a).role = .luminaire) (new : r.role ≠ .luminaire) :
    applyRowWrite a r s = disregardAlignment a (leaveLuminaire a (s.setRow a r)) := by
  simp only [applyRowWrite, beq_iff_eq.mpr old, beq_eq_false_iff_ne.mpr new]

theorem applyRowWrite_of_joining (old : (s.row a).role ≠ .luminaire) (new : r.role = .luminaire) :
    applyRowWrite a r s = newLuminaire a (s.setRow a r) := by
  simp only [applyRowWrite, beq_eq_false_iff_ne.mpr old, beq_iff_eq.mpr new]

theorem applyRowWrite_of_staying (old : (s.row a).role = .luminaire) (new : r.role = .luminaire) :
    applyRowWrite a r s = revisedLuminaire a (s.row a) r (s.setRow a r) := by
  simp only [applyRowWrite, beq_iff_eq.mpr old, beq_iff_eq.mpr new]

end

/-- The alignment record of the entry is marked, if it is that entry's (R38). -/
theorem disregardAlignment_eq (a : Addr) (s : State) :
    disregardAlignment a s = { s with verify := { s.verify with
      alignRecord := s.verify.alignRecord.map fun q => if q.addr = a then { q with disregard := true } else q } } := by
  unfold disregardAlignment
  split
  · next q record =>
    by_cases same : q.addr = a
    · rw [if_pos same, record, Option.map_some, if_pos same]
    · rw [if_neg same, record, Option.map_some, if_neg same, ← record]
  · next record => rw [record, Option.map_none, ← record]

/-- A new luminaire as R39 describes it: its output is found with its zone as written. -/
theorem newLuminaire_eq (a : Addr) (s : State) :
    newLuminaire a s = { s.setLum a
        { base := 1000, baseFade := 0, output := s.outputFor a 1000
          shadow := if s.power.present then .pending else .unknown
          sent := (s.lum a).sent, sentValid := false, emissionFade := 0, urgent := false
          aligned := false, health := .good, mismatches := 0, misses := 0 } with
      pendingList := if s.power.present then s.pendingList ++ [a] else s.pendingList } := by
  have output : (s.setLum a (s.lum a).fresh).outputOf a = s.outputFor a 1000 := by
    rw [State.outputOf, lum_setLum_self]
    exact (setLum_frame s a _).outputFor a 1000
  unfold newLuminaire
  simp only [lum_setLum_self, output, setLum_setLum, setLum_power]
  by_cases power : s.power.present = true
  · simp only [power, if_true]
    rfl
  · simp only [power, if_false, Bool.false_eq_true]
    rfl

/-- A luminaire's write recomputes it when its zone or its P_min changed (R40). -/
theorem revisedLuminaire_eq (a : Addr) (old new : RowConfig) (s : State) :
    revisedLuminaire a old new s =
      if old.zone = new.zone ∧ old.pmin = new.pmin then s
      else recompute (if old.zone = new.zone then s else s.setLum a { s.lum a with aligned := false }) a := by
  unfold revisedLuminaire
  by_cases zone : old.zone = new.zone
  · simp only [zone, if_true]
  · simp only [zone, if_false, false_and]

/-- An entry's recomputation in terms of the state before `aligned` was cleared (R40, R80). -/
theorem recompute_setLum_aligned (s : State) (a : Addr) (l : Lum) (base : l.base = (s.lum a).base)
    (fade : l.baseFade = (s.lum a).baseFade) :
    recompute (s.setLum a l) a = outputUpdate a (s.outputFor a (s.lum a).base) false (s.updateFade a) (s.setLum a l) := by
  have fades : (s.setLum a l).updateFade a = s.updateFade a := by
    unfold State.updateFade
    rw [lum_setLum_self, fade]
    rfl
  rw [recompute, State.outputOf, lum_setLum_self, base, fades, (setLum_frame s a l).outputFor]

theorem row_setRow_self (s : State) (a : Addr) (r : RowConfig) : (s.setRow a r).row a = r := by
  rw [row_setRow, if_pos rfl]

theorem updateFade_setRow (s : State) (a : Addr) (r : RowConfig) :
    (s.setRow a r).updateFade a = match r.zone with
      | some z => (s.zoneConfig z).trimFade
      | none => (s.lum a).baseFade := by
  unfold State.updateFade
  rw [row_setRow_self]
  cases r.zone <;> rfl

/-- Settles O55: a row map write by the roles before and after. -/
theorem rowMapWriteActsByRole : Obligations.RowMapWriteActsByRole := by
  intro after req index entry s v write plain busy
  have writes : write = .next (arbitrate (respond req (writeRow index entry v))) := rfl
  have answers {p q : Reply × State} (same : p = q) : (Host.Outcome.next (arbitrate (respond req p)) :
      Host.Outcome State Fault Refusal) = .next (arbitrate (respond req q)) :=
    congrArg (fun r => Host.Outcome.next (arbitrate (respond req r))) same
  rw [writes]
  refine ⟨fun outside => answers (writeTable_of_outside outside),
    fun inside isBusy => answers (writeTable_of_busy inside isBusy),
    fun inside free unparsed => answers (writeTable_of_unparsed inside free unparsed), ?_⟩
  intro inside r free parses a old l refused w ok
  have taken (allows : ¬ refused) {u : State} (applied : applyRowWrite a r v = u) : ok u :=
    (answers ((writeTable_of_allowed inside free parses
      (Classical.not_not.mp fun forbids => allows ((not_rowWriteAllowed_iff a r v).mp forbids))).trans
        (congrArg (Prod.mk _) applied)))
  have luminaire (was : old.role = .luminaire) : ¬ refused := fun no => nomatch was.symm.trans no.1
  refine ⟨fun no => answers (writeTable_of_refused inside free parses ((not_rowWriteAllowed_iff a r v).mpr no)),
    fun was new allows => taken allows (applyRowWrite_of_other was new), fun was new => taken (luminaire was) ?_,
    fun was new allows => taken allows ((applyRowWrite_of_joining was new).trans (newLuminaire_eq a w)),
    fun was new => taken (luminaire was) ?_⟩
  · exact (applyRowWrite_of_leaving was new).trans (disregardAlignment_eq a (leaveLuminaire a w))
  · rw [applyRowWrite_of_staying was new, revisedLuminaire_eq]
    refine ite_congr_iff Iff.rfl rfl ?_
    have fade := updateFade_setRow v a r
    by_cases zone : old.zone = r.zone
    · show recompute (if (v.row a).zone = r.zone then w else w.setLum a { w.lum a with aligned := false }) a = _
      rw [if_pos zone, if_pos zone, recompute, State.outputOf]
      exact congrArg (fun f => outputUpdate a (w.outputFor a l.base) false f w) fade
    · show recompute (if (v.row a).zone = r.zone then w else w.setLum a { w.lum a with aligned := false }) a = _
      rw [if_neg zone, if_neg zone, recompute_setLum_aligned w a { w.lum a with aligned := false } rfl rfl]
      exact congrArg (fun f => outputUpdate a (w.outputFor a l.base) false f
        (w.setLum a { l with aligned := false })) fade

end Sys2Proof.Machine

namespace Sys2Proof.Machine

/-! ## A zone's status changes outside passes (R80, R83, R84, R89 to R93) -/

/-- A zone takes a new status and hands its members their outputs (R80): what binding, unbinding and a change of mode have in common. -/
def State.rezone (s : State) (z : ZoneId) (v : ZoneStatus) : State := recomputeZone z (s.setZone z v)

theorem bindZone_eq (z : ZoneId) (s : State) : bindZone z s = s.rezone z ⟨.track, 1000, 0, s.stamp, none, false, false⟩ := rfl

theorem unbindZone_eq (z : ZoneId) (s : State) : unbindZone z s = s.rezone z { s.zone z with mode := .unbound } := rfl

theorem changeMode_eq (change : ZoneStatus → ZoneStatus) (s : State) (z : ZoneId) :
    changeMode change s z = if change (s.zone z) = s.zone z then s else s.rezone z (change (s.zone z)) := rfl

section
variable (s : State) (z : ZoneId) (v : ZoneStatus)

theorem rezone_eq_handOutputs : s.rezone z v = State.handOutputs (s.members z) (s.setZone z v) := rfl

theorem rezone_frame : RowMapFrame (s.setZone z v) (s.rezone z v) := recomputeZone_frame z _

theorem rezone_eq : s.rezone z v =
    { s with zones := (s.rezone z v).zones, lums := (s.rezone z v).lums, pendingList := (s.rezone z v).pendingList } := by
  have frame := rezone_frame s z v
  unfold RowMapFrame at frame
  rw [frame]
  rfl

theorem rezone_zone (y : ZoneId) : (s.rezone z v).zone y = if y = z then v else s.zone y := by
  rw [(rezone_frame s z v).zone, zone_setZone]

theorem rezone_lum (a : Addr) :
    (s.rezone z v).lum a = if a ∈ s.members z then (recompute (s.setZone z v) a).lum a else s.lum a := by
  rw [rezone_eq_handOutputs, handOutputs_lum _ (members_nodup s z)]
  rfl

theorem rezone_base (a : Addr) : ((s.rezone z v).lum a).base = (s.lum a).base := by
  rw [rezone_lum]
  split
  · have same := (outputUpdate_lum a a ((s.setZone z v).outputOf a) false ((s.setZone z v).updateFade a) (s.setZone z v)).2.2
    unfold Lum.SameBut at same
    have base := congrArg Lum.base same
    exact base
  · rfl

/-- Each member has the output that the rule gives with the new status (R77, R80). -/
theorem rezone_output {a : Addr} (member : a ∈ s.members z) :
    ((s.rezone z v).lum a).output = (s.setZone z v).outputFor a (s.lum a).base := by
  rw [rezone_lum, if_pos member]
  exact (outputUpdate_lum a a _ _ _ _).2.1

end

/-! ## The zone configuration write (O56) -/

section
variable {s : State} {z : ZoneId} {c : ZoneConfig}

theorem applyZoneWrite_of_same (same : (s.zoneConfig z).inUse = c.inUse) : applyZoneWrite z c s = s.setZoneConfig z c := by
  simp only [applyZoneWrite, same]
  cases c.inUse <;> rfl

theorem applyZoneWrite_of_bind (was : (s.zoneConfig z).inUse = false) (now : c.inUse = true) :
    applyZoneWrite z c s = (s.setZoneConfig z c).rezone z ⟨.track, 1000, 0, s.stamp, none, false, false⟩ := by
  simp only [applyZoneWrite, was, now]
  rfl

theorem applyZoneWrite_of_unbind (was : (s.zoneConfig z).inUse = true) (now : c.inUse = false) :
    applyZoneWrite z c s = (s.setZoneConfig z c).rezone z { s.zone z with mode := .unbound } := by
  simp only [applyZoneWrite, was, now]
  rfl

/-- A zone write either leaves every zone's status, or gives the written zone a new one. -/
theorem applyZoneWrite_cases (z : ZoneId) (c : ZoneConfig) (s : State) :
    applyZoneWrite z c s = s.setZoneConfig z c ∨ ∃ v, applyZoneWrite z c s = (s.setZoneConfig z c).rezone z v := by
  cases was : (s.zoneConfig z).inUse <;> cases now : c.inUse
  · exact .inl (applyZoneWrite_of_same (was.trans now.symm))
  · exact .inr ⟨_, applyZoneWrite_of_bind was now⟩
  · exact .inr ⟨_, applyZoneWrite_of_unbind was now⟩
  · exact .inl (applyZoneWrite_of_same (was.trans now.symm))

end

/-- At R = 1000 a bound zone's members have the larger of B and P_min (R77, R83). -/
theorem boundOutput_of_full {v : ZoneStatus} (full : v.ratio = 1000) (c : ZoneConfig) (now : Clock) (b pmin : Nat) :
    boundOutput c v now b pmin = if b = 0 then 0 else max pmin b := by
  rw [boundOutput_eq, full, if_neg (show ¬ (1000 : Nat) = 0 by decide), show (b * 1000 + 999) / 1000 = b by omega]

/-- The outputs that a zone's members are handed with a new status (R77). -/
theorem rezone_output_of_member {s : State} {z : ZoneId} {a : Addr} (member : s.isLum a = true ∧ (s.row a).zone = some z)
    (v : ZoneStatus) :
    ((s.rezone z v).lum a).output =
      if v.mode = .unbound then (s.lum a).base
      else boundOutput (s.zoneConfig z) v s.clock (s.lum a).base (s.row a).pmin := by
  have zoned : ((s.setZone z v).row a).zone = some z := member.2
  rw [rezone_output s z v ((mem_members s z a).mpr member), outputFor_of_some zoned, zone_setZone_self]
  rfl

/-- Settles O56: a zone write binds, unbinds, or changes the record alone. -/
theorem zoneWriteBindsAndUnbinds : Obligations.ZoneWriteBindsAndUnbinds := by
  intro after req index entry s v write plain busy
  have writes : write = .next (arbitrate (respond req (writeZone index entry v))) := rfl
  have answers {p q : Reply × State} (same : p = q) : (Host.Outcome.next (arbitrate (respond req p)) :
      Host.Outcome State Fault Refusal) = .next (arbitrate (respond req q)) :=
    congrArg (fun r => Host.Outcome.next (arbitrate (respond req r))) same
  rw [writes]
  refine ⟨fun outside => answers (writeTable_of_outside outside),
    fun inside isBusy => answers (writeTable_of_busy inside isBusy),
    fun inside free unparsed => answers (writeTable_of_unparsed inside free unparsed), ?_⟩
  intro inside c free parses z w member members
  refine ⟨applyZoneWrite z c v, answers (writeTable_of_allowed inside free parses rfl), ?frame, fun y other => ?zones,
    fun a outside => ?lums, fun a => ?base, applyZoneWrite_of_same, fun was now => ?bind, fun was now => ?unbind⟩
  case frame =>
    obtain same | ⟨x, same⟩ := applyZoneWrite_cases z c v
    · rw [same]
      rfl
    · rw [same]
      exact rezone_eq w z x
  case zones =>
    obtain same | ⟨x, same⟩ := applyZoneWrite_cases z c v
    · rw [same]
      rfl
    · rw [same, rezone_zone, if_neg other]
      rfl
  case lums =>
    obtain same | ⟨x, same⟩ := applyZoneWrite_cases z c v
    · rw [same]
      rfl
    · rw [same]
      exact (rezone_lum w z x a).trans (if_neg fun inside => outside ((mem_members w z a).mp inside))
  case base =>
    obtain same | ⟨x, same⟩ := applyZoneWrite_cases z c v
    · rw [same]
      rfl
    · rw [same, rezone_base]
      rfl
  case bind =>
    rw [applyZoneWrite_of_bind was now]
    refine ⟨rezone_eq_handOutputs w z _, (rezone_zone w z _ z).trans (if_pos rfl), fun a isMember => ?_⟩
    exact (rezone_output_of_member (s := w) isMember _).trans ((if_neg nofun).trans (boundOutput_of_full rfl _ _ _ _))
  case unbind =>
    rw [applyZoneWrite_of_unbind was now]
    refine ⟨rezone_eq_handOutputs w z _, (rezone_zone w z _ z).trans (if_pos rfl), fun a isMember => ?_⟩
    exact (rezone_output_of_member (s := w) isMember _).trans (if_pos rfl)

end Sys2Proof.Machine

namespace Sys2Proof.Machine

/-! ## SET ZONE MODE (O57) -/

/-- `t` is `s` but for zone statuses, dynamic entry fields and the pending list. -/
def ZoneFrame (s t : State) : Prop := t = { s with zones := t.zones, lums := t.lums, pendingList := t.pendingList }

namespace ZoneFrame

variable {s t u : State}

theorem trans (h : ZoneFrame s t) (k : ZoneFrame t u) : ZoneFrame s u := by
  unfold ZoneFrame at h k ⊢
  rw [k, h]

theorem row (h : ZoneFrame s t) (a : Addr) : t.row a = s.row a := by
  unfold ZoneFrame at h
  rw [h]
  rfl

theorem isLum (h : ZoneFrame s t) (a : Addr) : t.isLum a = s.isLum a := by
  rw [State.isLum, h.row]
  rfl

theorem members (h : ZoneFrame s t) (z : ZoneId) : t.members z = s.members z :=
  List.filter_congr fun a _ => by rw [h.isLum, h.row]

/-- An entry's output depends on the status of its own zone only. -/
theorem outputFor (h : ZoneFrame s t) {a : Addr} {z : ZoneId} (zoned : (s.row a).zone = some z)
    (zone : t.zone z = s.zone z) (b : Nat) : t.outputFor a b = s.outputFor a b := by
  rw [outputFor_of_some zoned, outputFor_of_some ((h.row a).symm ▸ zoned), zone]
  unfold ZoneFrame at h
  rw [h]
  rfl

end ZoneFrame

section
variable (change : ZoneStatus → ZoneStatus)

theorem changeMode_zoneFrame (s : State) (z : ZoneId) : ZoneFrame s (changeMode change s z) := by
  rw [changeMode_eq]
  split
  · rfl
  · exact rezone_eq s z _

theorem changeMode_base (s : State) (z : ZoneId) (a : Addr) : ((changeMode change s z).lum a).base = (s.lum a).base := by
  rw [changeMode_eq]
  split
  · rfl
  · exact rezone_base s z _ a

/-- An entry that is no member of a zone that changes keeps its fields. -/
theorem changeMode_lum {s : State} {z : ZoneId} {a : Addr} (other : a ∈ s.members z → change (s.zone z) = s.zone z) :
    (changeMode change s z).lum a = s.lum a := by
  rw [changeMode_eq]
  split
  · rfl
  · next changes => rw [rezone_lum, if_neg fun member => changes (other member)]

/-- A member of a zone that changes has its output by the rule, in the state after the change (R80). -/
theorem changeMode_output {s : State} {z : ZoneId} {a : Addr} (member : a ∈ s.members z)
    (changes : change (s.zone z) ≠ s.zone z) :
    ((changeMode change s z).lum a).output = (changeMode change s z).outputFor a (s.lum a).base := by
  rw [changeMode_eq, if_neg changes, rezone_output s z _ member, (rezone_frame s z _).outputFor]

/-- What SET ZONE MODE leaves after it has gone over the zones `zs` (R89 to R93). -/
structure ModesChanged (zs : List ZoneId) (s u : State) : Prop where
  frame : ZoneFrame s u
  inside : ∀ y ∈ zs, u.zone y = change (s.zone y)
  outside : ∀ y, y ∉ zs → u.zone y = s.zone y
  base : ∀ a, (u.lum a).base = (s.lum a).base
  output : ∀ a y, s.isLum a = true → (s.row a).zone = some y → y ∈ zs → change (s.zone y) ≠ s.zone y →
    (u.lum a).output = u.outputFor a (s.lum a).base
  same : ∀ a, (s.isLum a = false ∨ ∀ y, (s.row a).zone = some y → y ∉ zs ∨ change (s.zone y) = s.zone y) →
    u.lum a = s.lum a

theorem foldl_changeMode {zs : List ZoneId} (nodup : zs.Nodup) (s : State) :
    ModesChanged change zs s (zs.foldl (changeMode change) s) := by
  induction zs generalizing s with
  | nil => exact ⟨rfl, nofun, fun _ _ => rfl, fun _ => rfl, nofun, fun _ _ => rfl⟩
  | cons z zs ih =>
    obtain ⟨absent, nodup⟩ := List.nodup_cons.mp nodup
    have first := changeMode_zoneFrame change s z
    have zone : ∀ y, y ≠ z → (changeMode change s z).zone y = s.zone y := fun y other =>
      (changeMode_zone change s z y).trans (if_neg other)
    have apart : ∀ y ∈ zs, y ≠ z := fun y member e => absent (e ▸ member)
    obtain ⟨frame, inside, outside, base, output, same⟩ := ih nodup (changeMode change s z)
    rw [List.foldl_cons]
    refine ⟨first.trans frame, fun y member => ?_, fun y out => ?_, fun a => (base a).trans (changeMode_base change s z a),
      fun a y luminaire zoned member changes => ?_, fun a stays => ?_⟩
    · obtain rfl | member := List.mem_cons.mp member
      · exact (outside y absent).trans ((changeMode_zone change s y y).trans (if_pos rfl))
      · rw [inside y member, zone y (apart y member)]
    · obtain ⟨other, out⟩ := not_or.mp fun h => out (List.mem_cons.mpr h)
      exact (outside y out).trans (zone y other)
    · have zoned' : ((changeMode change s z).row a).zone = some y := by rw [first.row, zoned]
      obtain rfl | member := List.mem_cons.mp member
      · have kept := same a (.inr fun x e => .inl (by
          rw [Option.some.inj (zoned'.symm.trans e)] at absent
          exact absent))
        rw [kept, changeMode_output change ((mem_members s y a).mpr ⟨luminaire, zoned⟩) changes]
        exact (frame.outputFor zoned' (outside y absent) _).symm
      · rw [output a y ((first.isLum a).trans luminaire) zoned' member (by rwa [zone y (apart y member)]), changeMode_base]
    · have here : a ∈ s.members z → change (s.zone z) = s.zone z := fun member => by
        obtain ⟨luminaire, zoned⟩ := (mem_members s z a).mp member
        obtain no | stays := stays
        · rw [luminaire] at no
          cases no
        · exact (stays z zoned).resolve_left fun out => out List.mem_cons_self
      refine (same a ?_).trans (changeMode_lum change here)
      refine stays.imp (first.isLum a).trans fun stays y zoned => ?_
      rw [first.row] at zoned
      by_cases member : y ∈ zs
      · rw [zone y (apart y member)]
        exact .inr ((stays y zoned).resolve_left fun out => out (List.mem_cons_of_mem z member))
      · exact .inl member

/-- One zone's change, told by the state before the first (R93). -/
def changeModeFrom (v x : State) (y : ZoneId) : State :=
  if change (v.zone y) = v.zone y then x
  else State.handOutputs (v.members y) (x.setZone y (change (v.zone y)))

theorem changeMode_eq_changeModeFrom {v x : State} (frame : ZoneFrame v x) {y : ZoneId} (zone : x.zone y = v.zone y) :
    changeMode change x y = changeModeFrom change v x y := by
  rw [changeMode_eq, changeModeFrom, zone, rezone_eq_handOutputs, frame.members]

/-- Each zone's members are handed their outputs in turn, by the statuses before the first change (R93). -/
theorem foldl_changeModeFrom (v : State) {zs : List ZoneId} (nodup : zs.Nodup) {s : State} (frame : ZoneFrame v s)
    (zone : ∀ y ∈ zs, s.zone y = v.zone y) :
    zs.foldl (changeMode change) s = zs.foldl (changeModeFrom change v) s := by
  induction zs generalizing s with
  | nil => rfl
  | cons z zs ih =>
    obtain ⟨absent, nodup⟩ := List.nodup_cons.mp nodup
    rw [List.foldl_cons, List.foldl_cons, ← changeMode_eq_changeModeFrom change frame (zone z List.mem_cons_self)]
    refine ih nodup (frame.trans (changeMode_zoneFrame change s z)) fun y member => ?_
    have apart : y ≠ z := fun e => absent (e ▸ member)
    exact (changeMode_zone change s z y).trans ((if_neg apart).trans (zone y (List.mem_cons_of_mem z member)))

section
variable {code : Nat} {zone mode : Byte} {s : State}

theorem setZoneMode_of_outside (outside : 16 ≤ zone.toNat) (other : zone ≠ 255) :
    setZoneMode code change zone mode s = (.plain .range, s) :=
  (dif_neg (Nat.not_lt.mpr outside)).trans (if_neg fun all => other (BitVec.eq_of_toNat_eq all))

theorem setZoneMode_of_mode (other : mode.toNat ≠ code) : setZoneMode code change zone mode s = (.plain .range, s) := by
  unfold setZoneMode
  simp only [if_pos other]
  split
  · rfl
  · split <;> rfl

theorem setZoneMode_of_unbound (own : mode.toNat = code) (inside : zone.toNat < 16)
    (unbound : (s.zone ⟨zone.toNat, inside⟩).mode = .unbound) :
    setZoneMode code change zone mode s = (.plain .refused, s) :=
  (dif_pos inside).trans ((if_neg (not_not_intro own)).trans (if_pos unbound))

theorem setZoneMode_of_bound (own : mode.toNat = code) (inside : zone.toNat < 16)
    (bound : (s.zone ⟨zone.toNat, inside⟩).mode ≠ .unbound) :
    setZoneMode code change zone mode s =
      (⟨.ok, false, byte (zoneModeCode (change (s.zone ⟨zone.toNat, inside⟩)).mode) ::
          bytes16 (change (s.zone ⟨zone.toNat, inside⟩)).ratio⟩, changeMode change s ⟨zone.toNat, inside⟩) := by
  have now := (changeMode_zone change s ⟨zone.toNat, inside⟩ ⟨zone.toNat, inside⟩).trans (if_pos rfl)
  rw [← now]
  exact (dif_pos inside).trans ((if_neg (not_not_intro own)).trans (if_neg bound))

theorem setZoneMode_of_all (own : mode.toNat = code) (all : zone = 255) :
    setZoneMode code change zone mode s =
      (⟨.ok, false, [byte s.boundZones.length]⟩, s.boundZones.foldl (changeMode change) s) := by
  subst all
  exact if_neg (not_not_intro own)

end

end

theorem boundZones_nodup (s : State) : s.boundZones.Nodup := (List.nodup_finRange 16).filter _

/-- Settles O57: HOLD, MANUAL and TRACK of one bound zone and of every bound zone. -/
theorem setZoneModeChangesBoundZones : Obligations.SetZoneModeChangesBoundZones := by
  intro after req zone mode s v plain bound acts
  have answers {p q : Reply × State} (same : p = q) : (Host.Outcome.next (arbitrate (respond req p)) :
      Host.Outcome State Fault Refusal) = .next (arbitrate (respond req q)) :=
    congrArg (fun r => Host.Outcome.next (arbitrate (respond req r))) same
  have settles (code : Nat) (change : ZoneStatus → ZoneStatus) :
      acts (.next (arbitrate (respond req (setZoneMode code change zone mode v)))) code change := by
    refine ⟨fun outside other => answers (setZoneMode_of_outside change outside other),
      fun other => answers (setZoneMode_of_mode change other), fun own => ⟨fun inside => ?_, fun all => ?_⟩⟩
    · intro z
      have changed := foldl_changeMode change (List.pairwise_singleton _ z) v
      exact ⟨fun unbound => answers (setZoneMode_of_unbound change own inside (Classical.not_not.mp unbound)),
        fun isBound => ⟨_, answers (setZoneMode_of_bound change own inside isBound),
          foldl_changeModeFrom change v (List.pairwise_singleton _ z) rfl fun _ _ => rfl, changed.frame, changed.inside,
          changed.outside, changed.base, changed.output, changed.same⟩⟩
    · have changed := foldl_changeMode change (boundZones_nodup v) v
      exact ⟨_, answers (setZoneMode_of_all change own all),
        foldl_changeModeFrom change v (boundZones_nodup v) rfl fun _ _ => rfl, changed.frame, changed.inside,
        changed.outside, changed.base, changed.output, changed.same⟩
  exact ⟨settles 2 holdZone, settles 3 manualZone, settles 1 trackZone⟩

end Sys2Proof.Machine

namespace Sys2Proof.Machine

/-! ## The channel configuration write (O58) -/

/-- R44: a channel names no unit but a SENSOR. -/
theorem not_channelWriteAllowed_iff (c : ChannelId) (r : ChannelConfig) (s : State) :
    ¬ channelWriteAllowed c r s = true ↔ ∃ a, r.unit = some a ∧ (s.row a).role ≠ .sensor := by
  unfold channelWriteAllowed
  cases r.unit with
  | none => simp
  | some a => simp

section
variable {s : State} {c : ChannelId} {r : ChannelConfig}

/-- The state after the write of a changed unit, before the scan follows (R44). -/
def State.resetChannel (s : State) (c : ChannelId) (r : ChannelConfig) : State :=
  (s.setChannelConfig c r).setChannel c .initial

theorem applyChannelWrite_of_same (same : (s.channelConfig c).unit = r.unit) :
    applyChannelWrite c r s = s.setChannelConfig c r := if_pos same

theorem applyChannelWrite_of_changed (changed : (s.channelConfig c).unit ≠ r.unit) :
    applyChannelWrite c r s = reviseScan (disregardQuery c (s.resetChannel c r)) := if_neg changed

end

theorem disregardQuery_of_onRow (c : ChannelId) {s : State} (onRow : s.scan.onRow = true) :
    disregardQuery c s = { s with scan := { s.scan with
      disregard := s.scan.disregard || s.scan.lastQueried == some c } } := by
  unfold disregardQuery
  by_cases own : s.scan.lastQueried = some c
  · rw [if_pos ⟨onRow, own⟩, beq_iff_eq.mpr own, Bool.or_true]
  · rw [if_neg fun h => own h.2, beq_eq_false_iff_ne.mpr own, Bool.or_false]

theorem disregardQuery_of_offRow (c : ChannelId) {s : State} (offRow : s.scan.onRow = false) : disregardQuery c s = s :=
  if_neg (by simp [offRow])

theorem reviseScan_of_onRow {s : State} (onRow : s.scan.onRow = true) : reviseScan s = s :=
  if_neg (by simp [onRow])

theorem reviseScan_of_not_scanning {s : State} (other : s.scan.state ≠ .scanning) : reviseScan s = s :=
  if_neg fun h => other h.1

/-- While a candidate is offered, the next channel is found afresh; without one the scan completes (R50). -/
theorem reviseScan_of_scanning {s : State} (scanning : s.scan.state = .scanning) (offRow : s.scan.onRow = false) :
    reviseScan s = if (nextChannel s (searchStart s.scan)).isSome = true then findNext s else finishScan (findNext s) :=
  if_pos ⟨scanning, offRow⟩

/-- Settles O58: a channel write by its unit and by what the scan is doing. -/
theorem channelWriteFollowsTheScan : Obligations.ChannelWriteFollowsTheScan := by
  intro after req index entry s v write plain busy
  have writes : write = .next (arbitrate (respond req (writeChannel index entry v))) := rfl
  have answers {p q : Reply × State} (same : p = q) : (Host.Outcome.next (arbitrate (respond req p)) :
      Host.Outcome State Fault Refusal) = .next (arbitrate (respond req q)) :=
    congrArg (fun r => Host.Outcome.next (arbitrate (respond req r))) same
  rw [writes]
  refine ⟨fun outside => answers (writeTable_of_outside outside),
    fun inside isBusy => answers (writeTable_of_busy inside isBusy),
    fun inside free unparsed => answers (writeTable_of_unparsed inside free unparsed), ?_⟩
  intro inside r free parses c refused w from_ remains reset ok offers
  refine ⟨fun no => answers (writeTable_of_refused inside free parses ((not_channelWriteAllowed_iff c r v).mpr no)),
    fun allows => ?_⟩
  have taken {u : State} (applied : applyChannelWrite c r v = u) : ok u :=
    (answers ((writeTable_of_allowed inside free parses
      (Classical.not_not.mp fun forbids => allows ((not_channelWriteAllowed_iff c r v).mp forbids))).trans
        (congrArg (Prod.mk _) applied)))
  refine ⟨fun same => taken (applyChannelWrite_of_same same), fun changed => ?_⟩
  have state : v.resetChannel c r = reset := rfl
  have start : searchStart reset.scan = from_ := rfl
  have applied := applyChannelWrite_of_changed changed
  rw [state] at applied
  refine ⟨fun onRow => taken ?_, fun offRow other => taken ?_, fun offRow scanning => ⟨fun d stands least => taken ?_,
    fun finished => ⟨taken ?_, fun z bound => ((finishScan_passed (offers none)).2 z bound).2⟩⟩⟩
  · rw [applied, disregardQuery_of_onRow c (s := reset) onRow]
    exact reviseScan_of_onRow onRow
  · rw [applied, disregardQuery_of_offRow c (s := reset) offRow]
    exact reviseScan_of_not_scanning other
  · have next : nextChannel reset from_ = some d := nextChannel_of_least (s := reset) stands least
    rw [applied, disregardQuery_of_offRow c (s := reset) offRow, reviseScan_of_scanning (s := reset) scanning offRow, findNext, start, next]
    rfl
  · have next : nextChannel reset from_ = none := nextChannel_eq_none (s := reset) finished
    rw [applied, disregardQuery_of_offRow c (s := reset) offRow, reviseScan_of_scanning (s := reset) scanning offRow, findNext, start, next]
    rfl

end Sys2Proof.Machine

namespace Sys2Proof.Machine

/-! ## The settings write (O59) -/

section
variable {s : State}

theorem modeOff_of_onRow (scanning : s.scan.state = .scanning) (onRow : s.scan.onRow = true) :
    modeOff s = { s with scan := { s.scan with state := .stopping } } := by
  rw [modeOff, scanning]
  exact if_pos onRow

theorem modeOff_of_offRow (scanning : s.scan.state = .scanning) (offRow : s.scan.onRow = false) :
    modeOff s = clearPending (endScan .idle s) := by
  rw [modeOff, scanning]
  exact if_neg (by simp [offRow])

theorem modeOff_of_stopping (stopping : s.scan.state = .stopping) : modeOff s = clearPending s := by
  rw [modeOff, stopping]

theorem modeOff_of_rest (rest : s.scan.state = .idle ∨ s.scan.state = .suspended) : modeOff s = s := by
  obtain state | state := rest <;> rw [modeOff, state]

theorem modeOn_of_suspended (suspended : s.scan.state = .suspended) : modeOn s = s := by
  rw [modeOn, suspended]

/-- A scan starts in IDLE as a trigger starts it; STOPPING keeps the change for later (R55). -/
theorem modeOn_of_idle (idle : s.scan.state = .idle) (on : s.settings.mode ≠ .off) : modeOn s = trigger false s := by
  rw [modeOn, trigger_of_on on, idle]

theorem modeOn_of_stopping (stopping : s.scan.state = .stopping) :
    modeOn s = { s with scan := { s.scan with pending := true } } := by
  rw [modeOn, stopping]
  show setPending false s = _
  rw [setPending, Bool.or_false]

theorem modeChanged_of_same {old : ScanMode} (same : old = s.settings.mode) : modeChanged old s = s := by
  subst same
  unfold modeChanged
  cases s.settings.mode <;> rfl

theorem modeChanged_of_off {old : ScanMode} (was : old ≠ .off) (now : s.settings.mode = .off) :
    modeChanged old s = modeOff s := by
  unfold modeChanged
  rw [now]
  cases old
  · exact absurd rfl was
  · rfl
  · rfl

theorem modeChanged_of_on (now : s.settings.mode ≠ .off) : modeChanged .off s = modeOn s := by
  unfold modeChanged
  cases mode : s.settings.mode
  · exact absurd mode now
  · rfl
  · rfl

theorem modeChanged_of_continuous (now : s.settings.mode = .continuous) : modeChanged .periodic s = trigger false s := by
  unfold modeChanged
  rw [now]

theorem modeChanged_of_periodic (now : s.settings.mode = .periodic) : modeChanged .continuous s = s := by
  unfold modeChanged
  rw [now]

theorem trigger_of_stopping (stopping : s.scan.state = .stopping) (urgent : Bool) : trigger urgent s = s := by
  unfold trigger
  rw [stopping]
  exact ite_self s

/-- No tick is due outside PERIODIC mode. -/
theorem tickIfDue_of_mode (other : s.settings.mode ≠ .periodic) : tickIfDue s = s := by
  rw [tickIfDue_eq, if_neg fun due => other due.1]

theorem tickIfDue_of_suspended (suspended : s.scan.state = .suspended) : tickIfDue s = s := by
  rw [tickIfDue_eq, if_neg fun due => due.2.1 suspended]

end

/-- No tick is due at a scan's start: the period is no less than 250 ms (R45, R52). -/
theorem tickIfDue_of_started {now : Clock} {s : State} (started : s.StartedAt now) (period : 250 ≤ s.settings.period) :
    tickIfDue s = s := by
  obtain ⟨clock, start, -⟩ := started
  have interval : s.scan.start.interval s.clock = 0 := by
    rw [start, clock]
    simp [Stamp.interval]
  rw [tickIfDue_eq, interval, if_neg fun due => absurd due.2.2.2 (by omega)]

theorem settings_trigger (urgent : Bool) (s : State) : (trigger urgent s).settings = s.settings := by
  unfold State.settings
  rw [(trigger_frame urgent s).keeps.1]

theorem period_of_parseSettings {e : BitVec 64} {t : Settings} (parses : parseSettings e = some t) : 250 ≤ t.period := by
  have range := parseSettings_inRange parses
  rw [Settings.inRange, decide_eq_true_iff] at range
  exact range.2.1

/-- A settings write with a new mode or period acts on the scan, and then the tick that it makes due occurs (R45, R55). -/
theorem applySettingsWrite_of_changed {k : Fin 1} {t : Settings} {s : State}
    (changed : ¬ (s.settings.mode = t.mode ∧ s.settings.period = t.period)) :
    applySettingsWrite k t s = tickIfDue (modeChanged s.settings.mode { s with tables := { s.tables with settings := t } }) :=
  if_neg changed

/-- Settles O59: a settings write by the modes before and after and by the state of the scan. -/
theorem settingsWriteChangesTheScanMode : Obligations.SettingsWriteChangesTheScanMode := by
  intro after req index entry s v write plain busy
  have writes : write = .next (arbitrate (respond req (writeSettings index entry v))) := rfl
  have answers {p q : Reply × State} (same : p = q) : (Host.Outcome.next (arbitrate (respond req p)) :
      Host.Outcome State Fault Refusal) = .next (arbitrate (respond req q)) :=
    congrArg (fun r => Host.Outcome.next (arbitrate (respond req r))) same
  have first : index = 0 → index.toNat < 1 := fun zero => by rw [zero]; decide
  rw [writes]
  refine ⟨fun other => answers (writeTable_of_outside (Nat.one_le_iff_ne_zero.mpr fun zero => other
      (BitVec.eq_of_toNat_eq zero))), fun zero isBusy => answers (writeTable_of_busy (first zero) isBusy),
    fun zero free unparsed => answers (writeTable_of_unparsed (first zero) free unparsed), ?_⟩
  intro t zero free parses old w ok stopped tick due
  have taken {u : State} (applied : applySettingsWrite ⟨index.toNat, first zero⟩ t v = u) : ok u :=
    answers ((writeTable_of_allowed (first zero) free parses rfl).trans (congrArg (Prod.mk _) applied))
  have mode : w.settings.mode = t.mode := rfl
  have changed {u : State} (differs : ¬ (old.mode = t.mode ∧ old.period = t.period))
      (applied : tickIfDue (modeChanged old.mode w) = u) : ok u :=
    taken ((applySettingsWrite_of_changed differs).trans applied)
  refine ⟨fun same period => ?_, fun was now => ?off, fun was now => ?on, fun was now => ?_, fun was now => ?_,
    fun same period => ?_⟩
  · exact taken ((if_pos ⟨same, period⟩).trans (modeChanged_of_same (s := w) same))
  case off =>
    have stops {u : State} (off : modeOff w = u) (kept : u.settings = t) : ok u := by
      refine changed (fun h => was (h.1.trans now)) ?_
      rw [modeChanged_of_off (s := w) was now, off, tickIfDue_of_mode (by rw [kept, now]; nofun)]
    exact ⟨fun scanning onRow => stops (modeOff_of_onRow (s := w) scanning onRow) rfl,
      fun scanning offRow => stops (modeOff_of_offRow (s := w) scanning offRow) rfl,
      fun stopping => stops (modeOff_of_stopping (s := w) stopping) rfl, fun rest => stops (modeOff_of_rest (s := w) rest) rfl⟩
  case on =>
    have starts {u : State} (on : tickIfDue (modeOn w) = u) : ok u := by
      refine changed (fun h => now (h.1.symm.trans was)) ?_
      rw [was, modeChanged_of_on (s := w) now, on]
    refine ⟨fun suspended => starts ?_, fun stopping => starts ?_, fun idle => starts ?_⟩
    · rw [modeOn_of_suspended (s := w) suspended, tickIfDue_of_suspended (s := w) suspended]
    · rw [modeOn_of_stopping (s := w) stopping, tickIfDue_eq]
      refine ite_congr_iff Iff.rfl ?_ rfl
      exact trigger_of_stopping (s := { w with scan := { v.scan with pending := true, tickTaken := true } }) stopping false
    · have start : trigger false w = startScan false w := (trigger_of_on (s := w) now false).trans (by rw [idle])
      have started := (startedSteps v.clock).startScan_of_opened false (s := w) ⟨rfl, rfl, rfl, nofun⟩
      rw [modeOn_of_idle (s := w) idle now, start, tickIfDue_of_started started]
      rw [← start, settings_trigger]
      exact period_of_parseSettings parses
  · refine changed (fun h => nomatch was.symm.trans (h.1.trans now)) ?_
    rw [was, modeChanged_of_continuous (s := w) now, tickIfDue_of_mode]
    rw [settings_trigger, mode, now]
    nofun
  · refine changed (fun h => nomatch was.symm.trans (h.1.trans now)) ?_
    rw [was, modeChanged_of_periodic (s := w) now]
    exact tickIfDue_eq w
  · refine changed (fun h => period h.2) ?_
    rw [modeChanged_of_same (s := w) same]
    exact tickIfDue_eq w

end Sys2Proof.Machine

namespace Sys2Proof.Machine

/-! ## What the trunk receiver makes of a frame (O16) -/

section
variable {own h segment unit : Byte} {rest : List Byte} {broken noise : Bool}

theorem trunkVerdict_of_short {bytes : List Byte} (short : bytes.length < 3) :
    trunkVerdict own ⟨bytes, broken, noise⟩ = .framing := by
  match bytes with
  | [] => rfl
  | [_] => rfl
  | [_, _] => rfl
  | _ :: _ :: _ :: _ => exact absurd short (by simp)

theorem trunkVerdict_of_long (long : 12 < h.toNat % 16) :
    trunkVerdict own ⟨h :: segment :: unit :: rest, broken, noise⟩ = .framing := if_pos long

theorem trunkVerdict_of_foreign (short : h.toNat % 16 ≤ 12) (foreign : segment ≠ own) (unaddressed : segment ≠ 255) :
    trunkVerdict own ⟨h :: segment :: unit :: rest, broken, noise⟩ = .ignored :=
  (if_neg (Nat.not_lt.mpr short)).trans (if_pos ⟨foreign, unaddressed⟩)

/-- A frame of the part's segment or to all is settled by its framing, check byte and form. -/
theorem trunkVerdict_of_own (short : h.toNat % 16 ≤ 12) (addressed : segment = own ∨ segment = 255) :
    trunkVerdict own ⟨h :: segment :: unit :: rest, broken, noise⟩ =
      match checkFrame ⟨h :: segment :: unit :: rest, broken, noise⟩ with
      | .framing => .framing
      | .check => .check
      | .good kind segment unit payload => sortTrunkFrame kind segment unit payload :=
  (if_neg (Nat.not_lt.mpr short)).trans (if_neg fun ⟨foreign, unaddressed⟩ => addressed.elim foreign unaddressed)

theorem trunkVerdict_of_broken (addressed : segment = own ∨ segment = 255)
    (fault : broken = true ∨ rest.length ≠ h.toNat % 16 + 1) :
    trunkVerdict own ⟨h :: segment :: unit :: rest, broken, noise⟩ = .framing := by
  by_cases long : 12 < h.toNat % 16
  · exact trunkVerdict_of_long long
  · have checked : checkFrame ⟨h :: segment :: unit :: rest, broken, noise⟩ = .framing :=
      if_pos (fault.imp_right .inr)
    rw [trunkVerdict_of_own (Nat.not_lt.mp long) addressed, checked]

variable {payload : List Byte} {c : Byte} (short : h.toNat % 16 ≤ 12) (whole : payload.length = h.toNat % 16)
  (addressed : segment = own ∨ segment = 255)
include short whole addressed

theorem trunkVerdict_of_wrong_check (wrong : c ≠ crc8 (h :: segment :: unit :: payload)) :
    trunkVerdict own ⟨h :: segment :: unit :: payload ++ [c], false, noise⟩ = .check := by
  have checked : checkFrame ⟨h :: segment :: unit :: (payload ++ [c]), false, noise⟩ = .check := by
    refine (checkFrame_append h segment unit c payload false noise).trans ?_
    rw [if_neg (by simp; omega), if_pos wrong]
  refine (trunkVerdict_of_own (rest := payload ++ [c]) short addressed).trans ?_
  rw [checked]

theorem trunkVerdict_of_right_check (right : c = crc8 (h :: segment :: unit :: payload)) :
    trunkVerdict own ⟨h :: segment :: unit :: payload ++ [c], false, noise⟩ =
      sortTrunkFrame (h.toNat / 16) segment unit payload := by
  have checked : checkFrame ⟨h :: segment :: unit :: (payload ++ [c]), false, noise⟩ =
      .good (h.toNat / 16) segment unit payload := by
    refine (checkFrame_append h segment unit c payload false noise).trans ?_
    rw [if_neg (by simp; omega), if_neg (not_not_intro right)]
  refine (trunkVerdict_of_own (rest := payload ++ [c]) short addressed).trans ?_
  rw [checked]

end

/-- The kind codes 0 and 9 to 15 are invalid. -/
theorem kindOfCode_eq_none {n : Nat} (invalid : n = 0 ∨ 9 ≤ n) : kindOfCode n = none := by
  unfold kindOfCode
  split
  case h_9 => rfl
  all_goals omega

theorem kindOfCode_kindCode (k : FrameKind) : kindOfCode (kindCode k) = some k := by cases k <;> rfl

theorem head?_eq_one_iff (p : List Byte) : p.head? = some 1 ↔ (p.getD 0 0).toNat = 1 := by
  cases p with
  | nil => simp
  | cons b p => exact (Option.some_inj.trans (toNat_eq_iff b (by decide)).symm)

theorem writeEntryLength_eq (n : Nat) :
    4 + writeEntryLength n = if n = 1 ∨ n = 3 then 4 + 3
      else if n = 2 ∨ n = 5 ∨ n = 7 then 4 + 8
      else if n = 6 then 4 + 2
      else 4 := by
  unfold writeEntryLength
  split
  case h_7 => grind
  all_goals rfl

/-- The bytes an operation requires (R175). -/
theorem requiredManage_eq (p : List Byte) :
    requiredManage p = if (p.getD 0 0).toNat = 1 then 5
      else if (p.getD 0 0).toNat = 2 then 4 + writeEntryLength (p.getD 2 0).toNat
      else if (p.getD 0 0).toNat = 3 then 4 + 2 * ((p.getD 3 0).toNat / 16 % 4 + 1)
      else if (p.getD 0 0).toNat = 4 then 4
      else if (p.getD 0 0).toNat = 8 then 3
      else 2 := by
  unfold requiredManage
  generalize (p.getD 0 0).toNat = op
  split
  case h_6 => grind
  all_goals rfl

/-- The payload a trunk frame requires, byte by byte (R175). -/
theorem requiredTrunk_eq (k : FrameKind) (p : List Byte) :
    requiredTrunk k p = match k with
      | .setLevel => 3
      | .query => 1
      | .deviceConfig => if (p.getD 0 0).toNat = 1 then 3 else 1
      | .manage => if (p.getD 0 0).toNat = 1 then 5
        else if (p.getD 0 0).toNat = 2 then
          (if (p.getD 2 0).toNat = 1 ∨ (p.getD 2 0).toNat = 3 then 4 + 3
            else if (p.getD 2 0).toNat = 2 ∨ (p.getD 2 0).toNat = 5 ∨ (p.getD 2 0).toNat = 7 then 4 + 8
            else if (p.getD 2 0).toNat = 6 then 4 + 2
            else 4)
        else if (p.getD 0 0).toNat = 3 then 4 + 2 * ((p.getD 3 0).toNat / 16 % 4 + 1)
        else if (p.getD 0 0).toNat = 4 then 4
        else if (p.getD 0 0).toNat = 8 then 3
        else 2
      | _ => 0 := by
  cases k
  case deviceConfig => exact ite_congr_iff (head?_eq_one_iff p) rfl rfl
  case manage =>
    refine (requiredManage_eq p).trans ?_
    rw [writeEntryLength_eq]
  all_goals rfl

theorem knownUnit_eq_false (unit : Byte) :
    knownUnit unit.toNat = false ↔ ¬ (unit.toNat < 80 ∨ unit = 126 ∨ unit = 127) := by
  rw [knownUnit, ← Bool.not_eq_true, Bool.or_eq_true, Bool.or_eq_true, decide_eq_true_iff, beq_iff_eq, beq_iff_eq,
    toNat_eq_iff unit (by decide), toNat_eq_iff unit (by decide), or_assoc]
  exact Iff.rfl

theorem meansOnTrunk_eq_false (k : FrameKind) :
    meansOnTrunk k = false ↔ k = .reply ∨ k = .response ∨ k = .deferredReply ∨ k = .notice := by
  cases k <;> simp [meansOnTrunk]

/-- The forms that R8 discards. -/
theorem excludedForm_iff {f : Frame} (means : ¬ meansOnTrunk f.kind = false) :
    excludedForm f = true ↔ (f.kind = .setLevel ∧ f.unit = 126) ∨
      (f.kind = .query ∧ (64 ≤ f.unit.toNat ∨ f.segment = 255)) ∨
      (f.kind = .deviceConfig ∧ f.unit = 126) ∨ (f.kind = .manage ∧ f.unit ≠ 126) := by
  unfold excludedForm
  cases kind : f.kind <;> simp [kind, meansOnTrunk] at means ⊢

/-- R6 and R8 on a frame whose kind code is that of its kind. -/
theorem sortTrunkFrame_kindCode (f : Frame) :
    sortTrunkFrame (kindCode f.kind) f.segment f.unit f.payload =
      if meansOnTrunk f.kind = false then .framing
      else if knownUnit f.unit.toNat = false then .discarded
      else if f.payload.length < requiredTrunk f.kind f.payload then .framing
      else if excludedForm f then .discarded
      else .delivered f := by
  unfold sortTrunkFrame
  rw [kindOfCode_kindCode]

/-- A good frame of the part's segment or to all is sorted by R6 and R8. -/
theorem trunkVerdict_bytes {own : Byte} {f : Frame} (short : f.payload.length ≤ 12) (noise : Bool)
    (addressed : f.segment = own ∨ f.segment = 255) :
    trunkVerdict own ⟨f.bytes, false, noise⟩ = sortTrunkFrame (kindCode f.kind) f.segment f.unit f.payload := by
  have whole : f.payload.length = (byte (kindCode f.kind * 16 + f.payload.length)).toNat % 16 := (header_length _ short).symm
  rw [← header_kind short]
  exact trunkVerdict_of_right_check (whole ▸ short) whole addressed rfl

/-- Settles O16: the verdict on a reception by its segment, framing, check byte, kind, unit, length and form. -/
theorem trunkReceiverSortsFrames : Obligations.TrunkReceiverSortsFrames := by
  refine ⟨fun own h segment unit rest bytes broken noise => ⟨trunkVerdict_of_short, trunkVerdict_of_long,
    trunkVerdict_of_foreign, trunkVerdict_of_broken⟩, fun own h segment unit c payload noise short whole addressed => ?_,
    fun own f noise short => ?_⟩
  · exact ⟨trunkVerdict_of_wrong_check short whole addressed, fun right invalid => by
      rw [trunkVerdict_of_right_check short whole addressed right, sortTrunkFrame, kindOfCode_eq_none invalid]⟩
  · intro p required
    have whole : f.payload.length = (byte (kindCode f.kind * 16 + f.payload.length)).toNat % 16 := (header_length _ short).symm
    have needs : requiredTrunk f.kind f.payload = required := requiredTrunk_eq f.kind f.payload
    refine ⟨fun foreign unaddressed => trunkVerdict_of_foreign (whole ▸ short) foreign unaddressed,
      fun addressed => ⟨fun c wrong => trunkVerdict_of_wrong_check (whole ▸ short) whole addressed wrong, ?_⟩⟩
    rw [trunkVerdict_bytes short noise addressed, sortTrunkFrame_kindCode, needs]
    by_cases means : meansOnTrunk f.kind = false
    · rw [if_pos means, if_pos ((meansOnTrunk_eq_false _).mp means)]
    · rw [if_neg means, if_neg fun no => means ((meansOnTrunk_eq_false _).mpr no)]
      exact ite_congr_iff (knownUnit_eq_false _) rfl (ite_congr_iff Iff.rfl rfl (ite_congr_iff (excludedForm_iff means) rfl rfl))

end Sys2Proof.Machine

namespace Sys2Proof.Machine

/-! ## The commands of received frames (O18) -/

/-- The part's own segment byte is not that of all segments (R7). -/
theorem segmentByte_ne_all (s : State) : s.segmentByte ≠ 255 := by
  intro all
  have value := congrArg BitVec.toNat all
  rw [State.segmentByte, BitVec.toNat_ofNat] at value
  have small := s.segment.isLt
  have decided : (255 : Byte).toNat = 255 := rfl
  omega

/-- The segment byte of a destination, as a frame carries it (R7, R155). -/
def State.segmentFor (s : State) : Dest → Byte
  | .own => s.segmentByte
  | .all => 255

theorem segmentFor_addressed (s : State) (d : Dest) : s.segmentFor d = s.segmentByte ∨ s.segmentFor d = 255 := by
  cases d
  · exact .inl rfl
  · exact .inr rfl

theorem destOf_segmentFor (s : State) (d : Dest) (kind : FrameKind) (unit : Byte) (payload : List Byte) :
    destOf ⟨kind, s.segmentFor d, unit, payload⟩ = d := by
  rw [destOf]
  cases d
  · exact if_neg (segmentByte_ne_all s)
  · exact if_pos rfl

theorem targetOf_byte (t : Target) : targetOf t.byte.toNat = some t := by
  cases t with
  | unit a =>
    have value : (Target.unit a).byte.toNat = a.val := by
      rw [Target.byte, BitVec.toNat_ofNat]
      omega
    rw [value]
    exact dif_pos a.isLt
  | group g =>
    have value : (Target.group g).byte.toNat = 64 + g.val := by
      rw [Target.byte, BitVec.toNat_ofNat]
      omega
    rw [value, targetOf, dif_neg (by omega), dif_pos (by omega)]
    simp
  | all => rfl

/-- A unit byte that names a target is known, and is not the management unit's (R6, R8). -/
theorem known_of_target (t : Target) : t.byte.toNat < 80 ∨ t.byte = 127 := by
  cases t with
  | unit a =>
    rw [Target.byte, BitVec.toNat_ofNat]
    omega
  | group g =>
    rw [Target.byte, BitVec.toNat_ofNat]
    omega
  | all => exact .inr rfl

theorem target_ne_management (t : Target) : t.byte ≠ 126 := by
  obtain low | all := known_of_target t
  · intro management
    rw [management] at low
    exact absurd low (by decide)
  · rw [all]
    decide

/-- A frame that R6 and R8 let pass is the command of its row. -/
theorem trunkCommand_of_delivered {own : Byte} {f : Frame} (after : Nat) (noise : Bool) (short : f.payload.length ≤ 12)
    (addressed : f.segment = own ∨ f.segment = 255) (means : meansOnTrunk f.kind = true)
    (known : f.unit.toNat < 80 ∨ f.unit = 126 ∨ f.unit = 127) (long : requiredTrunk f.kind f.payload ≤ f.payload.length)
    (form : excludedForm f = false) :
    trunkCommand own after ⟨f.bytes, false, noise⟩ = deliveredCommand after ⟨f.bytes, false, noise⟩ f := by
  have verdict : trunkVerdict own ⟨f.bytes, false, noise⟩ = .delivered f := by
    rw [trunkVerdict_bytes short noise addressed, sortTrunkFrame_kindCode, if_neg (by simp [means]),
      if_neg fun unknown => (knownUnit_eq_false f.unit).mp unknown known, if_neg (Nat.not_lt.mpr long), if_neg (by simp [form])]
  rw [trunkCommand, verdict]

theorem toNat_bytes16 {n : Nat} (small : n < 65536) : (byte (n / 256)).toNat * 256 + (byte n).toNat = n := by
  rw [byte, byte, BitVec.toNat_ofNat, BitVec.toNat_ofNat]
  omega

/-- Two bytes of a payload spell their word (R174). -/
theorem wordAt_of_bytes16 {p : List Byte} {i : Nat} {word : BitVec 16} (high : p.getD i 0 = byte (word.toNat / 256))
    (low : p.getD (i + 1) 0 = byte word.toNat) : wordAt p i = word := by
  rw [wordAt, payload16, high, low, toNat_bytes16 word.isLt, BitVec.ofNat_toNat, BitVec.setWidth_eq]

section
variable (s : State) (after : Nat) (noise : Bool) (d : Dest) (t : Target) (word : BitVec 16) (fade code : Byte)
  {extra more : List Byte}

/-- A SET LEVEL to a target (R97). -/
theorem trunkCommand_setLevel (room : extra.length ≤ 9) :
    trunkCommand s.segmentByte after
        ⟨(Frame.mk .setLevel (s.segmentFor d) t.byte (bytes16 word.toNat ++ fade :: extra)).bytes, false, noise⟩ =
      match t with
      | .unit a => .setLevelUnit after d a word fade extra
      | .group g => .setLevelGroup after d g word fade extra
      | .all => .setLevelBroadcast after d word fade extra := by
  have length : (bytes16 word.toNat ++ fade :: extra).length = extra.length + 3 := rfl
  rw [trunkCommand_of_delivered (f := .mk .setLevel (s.segmentFor d) t.byte (bytes16 word.toNat ++ fade :: extra)) after noise
    (length ▸ by omega) (segmentFor_addressed s d) rfl
    ((known_of_target t).imp_right .inr) (length ▸ Nat.le_add_left 3 _) (beq_eq_false_iff_ne.mpr (target_ne_management t))]
  show setLevelCommand _ _ _ = _
  unfold setLevelCommand
  simp only [targetOf_byte, destOf_segmentFor,
    wordAt_of_bytes16 (p := bytes16 word.toNat ++ fade :: extra) (i := 0) (word := word) rfl rfl]
  cases t <;> rfl

/-- A DEVICE CONFIG to a target that sets groups (R130). -/
theorem trunkCommand_setGroups (room : extra.length ≤ 9) :
    trunkCommand s.segmentByte after
        ⟨(Frame.mk .deviceConfig (s.segmentFor d) t.byte (1 :: bytes16 word.toNat ++ extra)).bytes, false, noise⟩ =
      .deviceConfigSetGroups after d t word extra := by
  have length : (1 :: bytes16 word.toNat ++ extra).length = extra.length + 3 := rfl
  rw [trunkCommand_of_delivered (f := .mk .deviceConfig (s.segmentFor d) t.byte (1 :: bytes16 word.toNat ++ extra)) after noise
    (length ▸ by omega) (segmentFor_addressed s d) rfl
    ((known_of_target t).imp_right .inr) (length ▸ Nat.le_add_left 3 _) (beq_eq_false_iff_ne.mpr (target_ne_management t))]
  show deviceConfigCommand _ _ _ = _
  unfold deviceConfigCommand
  simp only [targetOf_byte, destOf_segmentFor,
    wordAt_of_bytes16 (p := 1 :: bytes16 word.toNat ++ extra) (i := 1) (word := word) rfl rfl]
  rfl

/-- A DEVICE CONFIG to a target with another sub-kind (R98). -/
theorem trunkCommand_deviceConfig (room : more.length ≤ 11) (other : code ≠ 1) :
    trunkCommand s.segmentByte after
        ⟨(Frame.mk .deviceConfig (s.segmentFor d) t.byte (code :: more)).bytes, false, noise⟩ =
      .deviceConfig after d t code more := by
  have differs : ¬ (code :: more).head? = some 1 := fun same => other (Option.some.inj same)
  have long : requiredTrunk .deviceConfig (code :: more) ≤ (code :: more).length :=
    Nat.le_trans (Nat.le_of_eq (if_neg differs)) (Nat.le_add_left 1 _)
  rw [trunkCommand_of_delivered (f := .mk .deviceConfig (s.segmentFor d) t.byte (code :: more)) after noise
    (Nat.succ_le_succ room) (segmentFor_addressed s d) rfl
    ((known_of_target t).imp_right .inr) long (beq_eq_false_iff_ne.mpr (target_ne_management t))]
  show deviceConfigCommand _ _ _ = _
  unfold deviceConfigCommand
  simp only [targetOf_byte, destOf_segmentFor, differs, if_false]
  rfl

/-- A QUERY to a unit of the part's segment, by its item (R130). -/
theorem trunkCommand_query (a : Addr) (room : more.length ≤ 11) :
    trunkCommand s.segmentByte after
        ⟨(Frame.mk .query s.segmentByte (Target.unit a).byte (code :: more)).bytes, false, noise⟩ =
      if code = 1 then .queryTargetLevel after a more
      else if code = 8 then .queryLightReading after a more
      else .queryOtherItem after a code more := by
  have unit : (Target.unit a).byte.toNat < 64 := by
    rw [Target.byte, BitVec.toNat_ofNat]
    omega
  have form : excludedForm (Frame.mk .query s.segmentByte (Target.unit a).byte (code :: more)) = false := by
    have own : (s.segmentByte == 255) = false := beq_eq_false_iff_ne.mpr (segmentByte_ne_all s)
    show (decide (64 ≤ _) || s.segmentByte == 255) = false
    rw [own, decide_eq_false (Nat.not_le.mpr unit), Bool.or_false]
  rw [trunkCommand_of_delivered (f := .mk .query s.segmentByte (Target.unit a).byte (code :: more)) after noise
    (Nat.succ_le_succ room) (.inl rfl) rfl ((known_of_target _).imp_right .inr)
    (Nat.le_add_left 1 _) form]
  show queryCommand _ _ _ = _
  unfold queryCommand
  simp only [targetOf_byte]
  rfl

end

/-- Settles O18: SET LEVEL, QUERY and DEVICE CONFIG frames, each target from one lemma. -/
theorem receivedFramesAreTheirCommands : Obligations.ReceivedFramesAreTheirCommands := by
  intro s after noise d a g word fade code extra more room room' seg one group command levels groups
  have segment : seg = s.segmentFor d := by cases d <;> rfl
  have level (t : Target) := trunkCommand_setLevel s after noise d t word fade room
  have sets (t : Target) := trunkCommand_setGroups s after noise d t word room
  have config (other : code ≠ 1) (t : Target) := trunkCommand_deviceConfig s after noise d t code room' other
  rw [segment]
  exact ⟨level (.unit a), level (.group g), level .all, trunkCommand_query s after noise code a room',
    sets (.unit a), sets (.group g), sets .all,
    fun other => ⟨config other (.unit a), config other (.group g), config other .all⟩⟩

end Sys2Proof.Machine

namespace Sys2Proof.Machine

/-! ## Bytes that spell a value (R174) -/

theorem bytesValue_append (bs : List Byte) (b : Byte) : bytesValue (bs ++ [b]) = bytesValue bs * 256 + b.toNat := by
  rw [bytesValue, List.foldl_append]
  rfl

theorem toNat_byte (n : Nat) : (byte n).toNat = n % 256 := BitVec.toNat_ofNat n 8

/-- A number's low byte closes the bytes of its quotient. -/
theorem bytesValue_append_byte {bs : List Byte} {n : Nat} (quotient : bytesValue bs = n / 256) :
    bytesValue (bs ++ [byte n]) = n := by
  rw [bytesValue_append, quotient, toNat_byte]
  omega

theorem bytesValue_byte {n : Nat} (small : n < 256) : bytesValue [byte n] = n :=
  bytesValue_append_byte (bs := []) (Nat.div_eq_of_lt small).symm

theorem bytesValue_bytes16 {n : Nat} (small : n < 65536) : bytesValue (bytes16 n) = n :=
  bytesValue_append_byte (bytesValue_byte (by omega))

theorem bytesValue_bytes24 {n : Nat} (small : n < 16777216) :
    bytesValue [byte (n / 65536), byte (n / 256), byte n] = n := by
  refine bytesValue_append_byte (bs := [byte (n / 65536), byte (n / 256)]) ?_
  rw [show n / 65536 = n / 256 / 256 by omega]
  exact bytesValue_bytes16 (by omega)

theorem bytesValue_bytes64 (v : BitVec 64) : bytesValue (bytes64 v) = v.toNat := by
  have bound := v.isLt
  have last {bs : List Byte} {k n : Nat} (quotient : bytesValue bs = n / 2 ^ (k + 8)) :
      bytesValue (bs ++ [byte (n / 2 ^ k)]) = n / 2 ^ k :=
    bytesValue_append_byte (quotient.trans (by rw [Nat.pow_add, Nat.div_div_eq_div_mul]))
  have first : bytesValue [byte (v.toNat / 2 ^ 56)] = v.toNat / 2 ^ 56 := bytesValue_byte (by omega)
  have whole := last (k := 0) (last (k := 8) (last (k := 16) (last (k := 24) (last (k := 32) (last (k := 40)
    (last (k := 48) first))))))
  exact whole.trans (Nat.div_one _)

theorem ofNat_bytes16 (e : BitVec 16) : BitVec.ofNat 16 (bytesValue (bytes16 e.toNat)) = e := by
  rw [bytesValue_bytes16 e.isLt, BitVec.ofNat_toNat, BitVec.setWidth_eq]

theorem ofNat_bytes24 (e : BitVec 24) :
    BitVec.ofNat 24 (bytesValue [byte (e.toNat / 65536), byte (e.toNat / 256), byte e.toNat]) = e := by
  rw [bytesValue_bytes24 e.isLt, BitVec.ofNat_toNat, BitVec.setWidth_eq]

theorem ofNat_bytes64 (e : BitVec 64) : BitVec.ofNat 64 (bytesValue (bytes64 e)) = e := by
  rw [bytesValue_bytes64, BitVec.ofNat_toNat, BitVec.setWidth_eq]

/-! ## MANAGE frames (O60) -/

/-- A MANAGE frame that is long enough is the command of its row, for the destination its segment byte names (R155). -/
theorem trunkCommand_manage (s : State) (after : Nat) (noise : Bool) (d : Dest) {p : List Byte} (command : Dest → Instr)
    (short : p.length ≤ 12) (long : requiredManage p ≤ p.length)
    (row : manageCommand after ⟨.manage, s.segmentFor d, 126, p⟩ = command (destOf ⟨.manage, s.segmentFor d, 126, p⟩)) :
    trunkCommand s.segmentByte after ⟨(Frame.mk .manage (s.segmentFor d) 126 p).bytes, false, noise⟩ = command d := by
  rw [trunkCommand_of_delivered (f := .mk .manage (s.segmentFor d) 126 p) after noise short (segmentFor_addressed s d) rfl
    (.inr (.inl rfl)) long rfl]
  show manageCommand after _ = _
  rw [row, destOf_segmentFor]

theorem zoneModeCommand_eq (after : Nat) (req : Request) (p : List Byte) :
    zoneModeCommand after req p =
      if p.getD 3 0 = 2 then .setZoneModeHold after req (p.getD 2 0) (p.getD 3 0)
      else if p.getD 3 0 = 3 then .setZoneModeManual after req (p.getD 2 0) (p.getD 3 0)
      else .setZoneModeTrack after req (p.getD 2 0) (p.getD 3 0) := by
  have hold : (p.getD 3 0).toNat = 2 ↔ p.getD 3 0 = 2 := toNat_eq_iff _ (by decide)
  have manual : (p.getD 3 0).toNat = 3 ↔ p.getD 3 0 = 3 := toNat_eq_iff _ (by decide)
  unfold zoneModeCommand
  split
  · next code => exact (if_pos (hold.mp code)).symm
  · next code =>
    rw [if_neg fun h => absurd (code.symm.trans (hold.mpr h)) (by decide)]
    exact (if_pos (manual.mp code)).symm
  · next notHold notManual =>
    rw [if_neg fun h => notHold (hold.mpr h)]
    exact (if_neg fun h => notManual (manual.mpr h)).symm

/-- The words of a load stand in order in the payload (R159). -/
theorem getD_flatMap_bytes16 (values : List (BitVec 16)) (extra : List Byte) {k : Nat} (inside : k < values.length) :
    ((values.flatMap fun x => bytes16 x.toNat) ++ extra).getD (2 * k) 0 = byte (values[k].toNat / 256) ∧
      ((values.flatMap fun x => bytes16 x.toNat) ++ extra).getD (2 * k + 1) 0 = byte values[k].toNat := by
  induction values generalizing k with
  | nil => exact absurd inside (Nat.not_lt_zero k)
  | cons x values ih =>
    cases k with
    | zero => exact ⟨rfl, rfl⟩
    | succ k => exact ih (Nat.lt_of_succ_lt_succ inside)

theorem length_flatMap_bytes16 (values : List (BitVec 16)) :
    (values.flatMap fun x => bytes16 x.toNat).length = 2 * values.length := by
  induction values with
  | nil => rfl
  | cons x values ih =>
    rw [List.flatMap_cons, List.length_append, ih, List.length_cons]
    show 2 + 2 * values.length = _
    omega

theorem words_of_load {n : Nat} (values : List (BitVec 16)) (extra : List Byte) (a b c d : Byte) (count : values.length = n) :
    ((List.range n).map fun k =>
      wordAt (a :: b :: c :: d :: ((values.flatMap fun x => bytes16 x.toNat) ++ extra)) (4 + 2 * k)) = values := by
  refine List.ext_getElem (by simp [count]) fun k _ inside => ?_
  obtain ⟨high, low⟩ := getD_flatMap_bytes16 values extra inside
  rw [List.getElem_map, List.getElem_range, Nat.add_comm 4]
  exact wordAt_of_bytes16 high low

/-- An operation code that names no operation is answered as such (R155). -/
theorem manageCommand_of_unknown {op : Byte} (unknown : op = 0 ∨ 8 < op.toNat) (after : Nat) (segment number : Byte)
    (extra : List Byte) :
    manageCommand after ⟨.manage, segment, 126, op :: number :: extra⟩ =
      .unknownOperation after ⟨destOf ⟨.manage, segment, 126, op :: number :: extra⟩, number⟩ op := by
  have code : op.toNat = 0 ∨ 8 < op.toNat := unknown.imp_left fun zero => by rw [zero]; rfl
  unfold manageCommand
  simp only [List.getD_cons_zero]
  split
  case h_9 => rfl
  all_goals omega

theorem requiredManage_of_unknown {op : Byte} (unknown : op = 0 ∨ 8 < op.toNat) (number : Byte) (extra : List Byte) :
    requiredManage (op :: number :: extra) = 2 := by
  have code : op.toNat = 0 ∨ 8 < op.toNat := unknown.imp_left fun zero => by rw [zero]; rfl
  rw [requiredManage_eq, List.getD_cons_zero, if_neg (by omega), if_neg (by omega), if_neg (by omega), if_neg (by omega),
    if_neg (by omega)]

/-- A table that is not written this way takes no entry bytes and has the row of the read-only tables (R157). -/
theorem toNat_of_readOnly {table : Byte} (readOnly : table ∉ ([1, 2, 3, 5, 6, 7] : List Byte)) :
    table.toNat ≠ 1 ∧ table.toNat ≠ 2 ∧ table.toNat ≠ 3 ∧ table.toNat ≠ 5 ∧ table.toNat ≠ 6 ∧ table.toNat ≠ 7 := by
  have differs (n : Nat) (small : n < 256) (member : BitVec.ofNat 8 n ∈ ([1, 2, 3, 5, 6, 7] : List Byte)) :
      table.toNat ≠ n := fun same => readOnly ((toNat_eq_iff table small).mp same ▸ member)
  exact ⟨differs 1 (by decide) (by decide), differs 2 (by decide) (by decide), differs 3 (by decide) (by decide),
    differs 5 (by decide) (by decide), differs 6 (by decide) (by decide), differs 7 (by decide) (by decide)⟩

theorem writeCommand_of_readOnly {p : List Byte} (readOnly : p.getD 2 0 ∉ ([1, 2, 3, 5, 6, 7] : List Byte)) (after : Nat)
    (req : Request) : writeCommand after req p = .writeEntryReadOnly after req (p.getD 2 0) (p.getD 3 0) := by
  have code := toNat_of_readOnly readOnly
  unfold writeCommand
  split
  case h_7 => rfl
  all_goals omega

theorem writeEntryLength_of_readOnly {table : Byte} (readOnly : table ∉ ([1, 2, 3, 5, 6, 7] : List Byte)) :
    4 + writeEntryLength table.toNat = 4 := by
  have code := toNat_of_readOnly readOnly
  rw [writeEntryLength_eq, if_neg (by omega), if_neg (by omega), if_neg (by omega)]

/-- Settles O60: each MANAGE operation's frame by the row that `manageCommand` has for its code. -/
theorem manageFramesAreTheirCommands : Obligations.ManageFramesAreTheirCommands := by
  intro s after noise d number table index part zone mode extra seg req command room bytes24
  have segment : seg = s.segmentFor d := by cases d <;> rfl
  have manage {p : List Byte} {n : Nat} (row : Dest → Instr) (fits : room n) (length : (p ++ extra).length = extra.length + n)
      (long : requiredManage (p ++ extra) = n)
      (is : manageCommand after ⟨.manage, s.segmentFor d, 126, p ++ extra⟩ =
        row (destOf ⟨.manage, s.segmentFor d, 126, p ++ extra⟩)) : command p = row d := by
    show trunkCommand s.segmentByte after ⟨(Frame.mk .manage seg 126 (p ++ extra)).bytes, false, noise⟩ = row d
    rw [segment]
    exact trunkCommand_manage s after noise d row (by rw [length, Nat.add_comm]; exact fits)
      (by rw [length, long]; exact Nat.le_add_left n _) is
  refine ⟨fun fits => ?read, fun e fits => ⟨?row, ?channel⟩, fun e fits => ⟨?zone, ?group, ?settings⟩, fun e fits => ?route,
    fun fits readOnly => ?readOnly, fun channelByte values count fits => ?load, fun fits => ?mode,
    fun fits => ⟨?scan, ?commit, ?restart, fun op unknown => ?unknown⟩, fun fits => ?status⟩
  case read =>
    exact manage (fun e => if part = 1 then .readEntryPart1 after ⟨e, number⟩ table index
      else .readEntryPart0 after ⟨e, number⟩ table index part) fits rfl rfl rfl
  case row =>
    exact manage (fun d => .writeRowMapEntry after ⟨d, number⟩ index e) fits rfl rfl
      (congrArg (Instr.writeRowMapEntry after _ index) (ofNat_bytes24 e))
  case channel =>
    exact manage (fun d => .writeChannelConfig after ⟨d, number⟩ index e) fits rfl rfl
      (congrArg (Instr.writeChannelConfig after _ index) (ofNat_bytes24 e))
  case zone =>
    exact manage (fun d => .writeZoneConfig after ⟨d, number⟩ index e) fits rfl rfl
      (congrArg (Instr.writeZoneConfig after _ index) (ofNat_bytes64 e))
  case group =>
    exact manage (fun d => .writeTrunkGroupMap after ⟨d, number⟩ index e) fits rfl rfl
      (congrArg (Instr.writeTrunkGroupMap after _ index) (ofNat_bytes64 e))
  case settings =>
    exact manage (fun d => .writeSettings after ⟨d, number⟩ index e) fits rfl rfl
      (congrArg (Instr.writeSettings after _ index) (ofNat_bytes64 e))
  case route =>
    exact manage (fun d => .writeEventRoute after ⟨d, number⟩ index e) fits rfl rfl
      (congrArg (Instr.writeEventRoute after _ index) (ofNat_bytes16 e))
  case readOnly =>
    exact manage (fun d => .writeEntryReadOnly after ⟨d, number⟩ table index) fits rfl (writeEntryLength_of_readOnly readOnly)
      (writeCommand_of_readOnly (p := [2, number, table, index] ++ extra) readOnly after _)
  case load =>
    have length : ([3, number, zone, channelByte] ++ (values.flatMap fun x => bytes16 x.toNat) ++ extra).length =
        extra.length + (4 + 2 * values.length) := by
      simp only [List.length_append, List.length_cons, List.length_nil, length_flatMap_bytes16]
      omega
    exact manage (fun d => .loadCoefficients after ⟨d, number⟩ zone channelByte values) fits length
      (congrArg (4 + 2 * ·) count.symm)
      (congrArg (Instr.loadCoefficients after _ zone channelByte) (words_of_load values extra 3 number zone channelByte count))
  case mode =>
    exact manage (fun d => if mode = 2 then .setZoneModeHold after ⟨d, number⟩ zone mode
      else if mode = 3 then .setZoneModeManual after ⟨d, number⟩ zone mode
      else .setZoneModeTrack after ⟨d, number⟩ zone mode) fits rfl rfl (zoneModeCommand_eq after _ _)
  case scan => exact manage (fun d => .triggerScan after ⟨d, number⟩) fits rfl rfl rfl
  case commit => exact manage (fun d => .commit after ⟨d, number⟩) fits rfl rfl rfl
  case restart => exact manage (fun d => .restart after ⟨d, number⟩) fits rfl rfl rfl
  case unknown =>
    exact manage (fun d => .unknownOperation after ⟨d, number⟩ op) fits rfl (requiredManage_of_unknown unknown number extra)
      (manageCommand_of_unknown unknown after _ number extra)
  case status =>
    exact manage (fun d => if part = 1 then .readStatusPart1 after ⟨d, number⟩
      else .readStatusPart0 after ⟨d, number⟩ part) fits rfl rfl rfl

end Sys2Proof.Machine

namespace Sys2Proof.Machine

/-! ## Written entries (O17) -/

/-! ### Field codes -/

theorem roleOfCode_eq_some {n : Nat} {r : Role} :
    roleOfCode n = some r ↔ n ≤ 2 ∧ r = if n = 0 then .absent else if n = 1 then .luminaire else .sensor := by
  unfold roleOfCode
  split
  case h_4 => grind
  all_goals simp [eq_comm]

theorem scanModeOfCode_eq_some {n : Nat} {m : ScanMode} :
    scanModeOfCode n = some m ↔ n ≤ 2 ∧ m = if n = 0 then .off else if n = 1 then .periodic else .continuous := by
  unfold scanModeOfCode
  split
  case h_4 => grind
  all_goals simp [eq_comm]

theorem channelOfCode_eq_some {n : Nat} {c : ChannelId} : channelOfCode n = some c ↔ n < 8 ∧ c = Fin.ofNat 8 n := by
  unfold channelOfCode
  by_cases inside : n < 8
  · have value : (⟨n, inside⟩ : ChannelId) = Fin.ofNat 8 n := Fin.ext (Nat.mod_eq_of_lt inside).symm
    rw [dif_pos inside, Option.some_inj, value, and_iff_right inside, eq_comm]
  · rw [dif_neg inside]
    exact ⟨nofun, fun h => absurd h.1 inside⟩

/-- A field that holds an index below `m`, or the code `k` for NONE. -/
theorem optionalField_eq_some {m k n : Nat} [NeZero m] {x : Option (Fin m)} :
    (if h : n < m then some (some ⟨n, h⟩) else if n = k then some none else none) = some x ↔
      (n < m ∨ n = k) ∧ x = if n < m then some (Fin.ofNat m n) else none := by
  by_cases inside : n < m
  · have value : (⟨n, inside⟩ : Fin m) = Fin.ofNat m n := Fin.ext (Nat.mod_eq_of_lt inside).symm
    rw [dif_pos inside, if_pos inside, Option.some_inj, value, and_iff_right (Or.inl inside), eq_comm]
  · rw [dif_neg inside, if_neg inside]
    by_cases missing : n = k
    · rw [if_pos missing, Option.some_inj, and_iff_right (Or.inr missing), eq_comm]
    · rw [if_neg missing]
      exact ⟨nofun, fun h => absurd h.1 (not_or.mpr ⟨inside, missing⟩)⟩

theorem zoneOfCode_eq_some {n : Nat} {z : Option ZoneId} :
    zoneOfCode n = some z ↔ (n < 16 ∨ n = 255) ∧ z = if n < 16 then some (Fin.ofNat 16 n) else none :=
  optionalField_eq_some

theorem unitOfCode_eq_some {n : Nat} {u : Option Addr} :
    unitOfCode n = some u ↔ (n < 64 ∨ n = 255) ∧ u = if n < 64 then some (Fin.ofNat 64 n) else none :=
  optionalField_eq_some

theorem skyOfCode_eq_some {n : Nat} {c : Option ChannelId} :
    skyOfCode n = some c ↔ (n < 8 ∨ n = 15) ∧ c = if n < 8 then some (Fin.ofNat 8 n) else none :=
  optionalField_eq_some

/-! ### Parsing -/

theorem entryByte_lt {w : Nat} (n : Nat) (e : BitVec w) (i : Nat) : entryByte n e i < 256 := Nat.mod_lt _ (by decide)

theorem parseRow_eq (e : BitVec 24) :
    parseRow e = if entryByte 3 e 0 ≤ 2 ∧ (entryByte 3 e 1 < 16 ∨ entryByte 3 e 1 = 255) ∧
        1 ≤ entryByte 3 e 2 ∧ entryByte 3 e 2 ≤ 250 then
      some {
        role := if entryByte 3 e 0 = 0 then .absent else if entryByte 3 e 0 = 1 then .luminaire else .sensor
        zone := if entryByte 3 e 1 < 16 then some (Fin.ofNat 16 (entryByte 3 e 1)) else none
        pmin := entryByte 3 e 2 }
    else none := by
  unfold parseRow
  split
  · next role zone roleCode zoneCode =>
    obtain ⟨roleRange, rfl⟩ := roleOfCode_eq_some.mp roleCode
    obtain ⟨zoneRange, rfl⟩ := zoneOfCode_eq_some.mp zoneCode
    exact ite_congr_iff (by
      rw [RowConfig.inRange, decide_eq_true_iff]
      exact ⟨fun pmin => ⟨roleRange, zoneRange, pmin⟩, fun ⟨_, _, pmin⟩ => pmin⟩) rfl rfl
  · next other =>
    refine (if_neg fun ⟨role, zone, _⟩ => ?_).symm
    exact other _ _ (roleOfCode_eq_some.mpr ⟨role, rfl⟩) (zoneOfCode_eq_some.mpr ⟨zone, rfl⟩)

theorem parseChannel_eq (e : BitVec 24) :
    parseChannel e = if (entryByte 3 e 0 < 64 ∨ entryByte 3 e 0 = 255) ∧
        entryByte 3 e 1 * 256 + entryByte 3 e 2 ≤ 4095 then
      some {
        unit := if entryByte 3 e 0 < 64 then some (Fin.ofNat 64 (entryByte 3 e 0)) else none
        k := entryByte 3 e 1 * 256 + entryByte 3 e 2 }
    else none := by
  unfold parseChannel
  split
  · next unit code =>
    obtain ⟨unitRange, rfl⟩ := unitOfCode_eq_some.mp code
    exact ite_congr_iff (by
      rw [ChannelConfig.inRange, decide_eq_true_iff]
      exact ⟨fun k => ⟨unitRange, k⟩, fun ⟨_, k⟩ => k⟩) rfl rfl
  · next code =>
    refine (if_neg fun ⟨unit, _⟩ => ?_).symm
    exact nomatch code.symm.trans (unitOfCode_eq_some.mpr ⟨unit, rfl⟩)

/-- The bits above the trim fade, by the size of the byte. -/
theorem flags_of_byte {b : Nat} (small : b < 256) :
    (b / 128 % 2 == 1) = decide (128 ≤ b) ∧ (b / 64 % 2 == 1) = decide (64 ≤ b % 128) := by
  refine ⟨Bool.eq_iff_iff.mpr ?_, Bool.eq_iff_iff.mpr ?_⟩ <;>
  · rw [beq_iff_eq, decide_eq_true_iff]
    omega

theorem parseZone_eq (e : BitVec 64) :
    parseZone e = if pairHigh 8 e 2 ≤ 2000 ∧ 1 ≤ pairLow 8 e 2 ∧ pairLow 8 e 2 ≤ 1000 ∧ 1 ≤ pairHigh 8 e 5 ∧
        pairHigh 8 e 5 ≤ 1000 ∧ entryByte 8 e 1 ≤ 100 ∧ pairLow 8 e 5 ≤ 3600 then
      some {
        inUse := decide (128 ≤ entryByte 8 e 0), switchOff := decide (64 ≤ entryByte 8 e 0 % 128)
        trimFade := Fin.ofNat 16 (entryByte 8 e 0), deadBand := entryByte 8 e 1
        target := pairHigh 8 e 2, slewUp := pairLow 8 e 2, slewDown := pairHigh 8 e 5, offDwell := pairLow 8 e 5 }
    else none := by
  obtain ⟨inUse, switchOff⟩ := flags_of_byte (entryByte_lt 8 e 0)
  unfold parseZone
  rw [inUse, switchOff]
  exact ite_congr_iff (by rw [ZoneConfig.inRange, decide_eq_true_iff]) rfl rfl

theorem parseSettings_eq (e : BitVec 64) :
    parseSettings e =
      if entryByte 8 e 0 / 16 ≤ entryByte 8 e 0 % 16 ∧ entryByte 8 e 0 % 16 ≤ 7 ∧
          1 ≤ entryByte 8 e 1 / 16 ∧ 1 ≤ entryByte 8 e 1 % 16 ∧
          entryByte 8 e 2 / 64 ≤ 2 ∧ (entryByte 8 e 2 % 16 ≤ 7 ∨ entryByte 8 e 2 % 16 = 15) ∧
          50 ≤ entryByte 8 e 2 / 16 % 4 * 256 + entryByte 8 e 7 ∧
          entryByte 8 e 2 / 16 % 4 * 256 + entryByte 8 e 7 ≤ 1000 ∧
          250 ≤ entryByte 8 e 3 * 256 + entryByte 8 e 4 ∧ entryByte 8 e 3 * 256 + entryByte 8 e 4 ≤ 60000 ∧
          200 ≤ entryByte 8 e 5 * 256 + entryByte 8 e 6 ∧ entryByte 8 e 5 * 256 + entryByte 8 e 6 ≤ 60000 then
        some {
          first := Fin.ofNat 8 (entryByte 8 e 0 / 16), last := Fin.ofNat 8 (entryByte 8 e 0 % 16)
          mode := if entryByte 8 e 2 / 64 = 0 then .off else if entryByte 8 e 2 / 64 = 1 then .periodic else .continuous
          period := entryByte 8 e 3 * 256 + entryByte 8 e 4
          sky := if entryByte 8 e 2 % 16 ≤ 7 then some (Fin.ofNat 8 (entryByte 8 e 2 % 16)) else none
          threshold := entryByte 8 e 2 / 16 % 4 * 256 + entryByte 8 e 7
          staleLimit := entryByte 8 e 1 / 16, recoverLimit := entryByte 8 e 1 % 16
          verifyInterval := entryByte 8 e 5 * 256 + entryByte 8 e 6 }
      else none := by
  have limits := entryByte_lt 8 e 1
  unfold parseSettings
  split
  · next first last mode sky firstCode lastCode modeCode skyCode =>
    obtain ⟨firstRange, rfl⟩ := channelOfCode_eq_some.mp firstCode
    obtain ⟨lastRange, rfl⟩ := channelOfCode_eq_some.mp lastCode
    obtain ⟨modeRange, rfl⟩ := scanModeOfCode_eq_some.mp modeCode
    obtain ⟨skyRange, rfl⟩ := skyOfCode_eq_some.mp skyCode
    refine ite_congr_iff ?_ (congrArg some ?_) rfl
    · have firstVal : (Fin.ofNat 8 (entryByte 8 e 0 / 16)).val = entryByte 8 e 0 / 16 := Nat.mod_eq_of_lt firstRange
      have lastVal : (Fin.ofNat 8 (entryByte 8 e 0 % 16)).val = entryByte 8 e 0 % 16 := Nat.mod_eq_of_lt lastRange
      rw [Settings.inRange, decide_eq_true_iff]
      dsimp only
      rw [firstVal, lastVal]
      omega
    · simp only [Nat.lt_succ_iff]
  · next other =>
    refine (if_neg fun range => ?_).symm
    exact other _ _ _ _ (channelOfCode_eq_some.mpr ⟨by omega, rfl⟩) (channelOfCode_eq_some.mpr ⟨by omega, rfl⟩)
      (scanModeOfCode_eq_some.mpr ⟨by omega, rfl⟩) (skyOfCode_eq_some.mpr ⟨by omega, rfl⟩)

/-! ### Round trips -/

theorem bytesValue_lt (bs : List Byte) : bytesValue bs < 256 ^ bs.length := by
  induction bs using snoc_induction with
  | nil => decide
  | snoc bs b ih =>
    have small := b.isLt
    rw [bytesValue_append, List.length_append, List.length_singleton, Nat.pow_succ]
    omega

/-- The bytes of the value that bytes spell are these bytes (R174). -/
theorem bytesValue_div (bs : List Byte) {i : Nat} (inside : i < bs.length) :
    bytesValue bs / 256 ^ (bs.length - 1 - i) % 256 = (bs.getD i 0).toNat := by
  induction bs using snoc_induction with
  | nil => exact absurd inside (Nat.not_lt_zero i)
  | snoc bs b ih =>
    have small := b.isLt
    rw [List.length_append, List.length_singleton] at inside ⊢
    rw [bytesValue_append]
    by_cases last : i = bs.length
    · have exponent : bs.length + 1 - 1 - i = 0 := by omega
      have entry : (bs ++ [b]).getD i 0 = b := by
        rw [last, List.getD_eq_getElem?_getD, List.getElem?_concat_length]
        rfl
      rw [exponent, entry]
      omega
    · have before : i < bs.length := by omega
      have exponent : bs.length + 1 - 1 - i = bs.length - 1 - i + 1 := by omega
      have quotient : (bytesValue bs * 256 + b.toNat) / 256 = bytesValue bs := by omega
      have entry : (bs ++ [b]).getD i 0 = bs.getD i 0 := by
        rw [List.getD_eq_getElem?_getD, List.getElem?_append_left before, List.getD_eq_getElem?_getD]
      rw [exponent, Nat.pow_succ, Nat.mul_comm (256 ^ _), ← Nat.div_div_eq_div_mul, quotient, ih before, entry]

theorem entryByte_of_bytes {w n : Nat} (bs : List Byte) (length : bs.length = n) (width : w = 8 * n) {i : Nat}
    (inside : i < n) : entryByte n (BitVec.ofNat w (bytesValue bs)) i = (bs.getD i 0).toNat := by
  subst length width
  have small : bytesValue bs < 2 ^ (8 * bs.length) := by
    rw [Nat.pow_mul]
    exact bytesValue_lt bs
  rw [entryByte, BitVec.toNat_ofNat, Nat.mod_eq_of_lt small, bytesValue_div bs inside]

theorem roleOfCode_roleCode (r : Role) : roleOfCode (byte (roleCode r)).toNat = some r := by cases r <;> rfl

theorem zoneOfCode_zoneCode (z : Option ZoneId) : zoneOfCode (byte (zoneCode z)).toNat = some z := by
  cases z with
  | none => rfl
  | some z =>
    have value : (byte (zoneCode (some z))).toNat = z.val := (toNat_byte z.val).trans (by omega)
    rw [value]
    exact dif_pos z.isLt

theorem unitOfCode_unitCode (u : Option Addr) : unitOfCode (byte (unitCode u)).toNat = some u := by
  cases u with
  | none => rfl
  | some a =>
    have value : (byte (unitCode (some a))).toNat = a.val := (toNat_byte a.val).trans (by omega)
    rw [value]
    exact dif_pos a.isLt

theorem channelOfCode_val (c : ChannelId) : channelOfCode c.val = some c := dif_pos c.isLt

theorem scanModeOfCode_scanModeCode (m : ScanMode) : scanModeOfCode (scanModeCode m) = some m := by cases m <;> rfl

theorem skyOfCode_skyCode (c : Option ChannelId) : skyOfCode (skyCode c) = some c := by
  cases c with
  | none => rfl
  | some c => exact dif_pos c.isLt

theorem parseRow_rowBytes {r : RowConfig} (range : r.inRange = true) :
    parseRow (BitVec.ofNat 24 (bytesValue (rowBytes r))) = some r := by
  have entry (i : Fin 3) := entryByte_of_bytes (w := 24) (n := 3) (rowBytes r) rfl rfl i.isLt
  generalize BitVec.ofNat 24 (bytesValue (rowBytes r)) = e at entry ⊢
  have limits := range
  rw [RowConfig.inRange, decide_eq_true_iff] at limits
  have role : roleOfCode (entryByte 3 e 0) = some r.role :=
    (congrArg roleOfCode (entry 0)).trans (roleOfCode_roleCode r.role)
  have zone : zoneOfCode (entryByte 3 e 1) = some r.zone :=
    (congrArg zoneOfCode (entry 1)).trans (zoneOfCode_zoneCode r.zone)
  have pmin : entryByte 3 e 2 = r.pmin := (entry 2).trans ((toNat_byte r.pmin).trans (by omega))
  simp only [parseRow, role, zone, pmin]
  exact if_pos range

theorem parseChannel_channelBytes {c : ChannelConfig} (range : c.inRange = true) :
    parseChannel (BitVec.ofNat 24 (bytesValue (channelBytes c))) = some c := by
  have entry (i : Fin 3) := entryByte_of_bytes (w := 24) (n := 3) (channelBytes c) rfl rfl i.isLt
  generalize BitVec.ofNat 24 (bytesValue (channelBytes c)) = e at entry ⊢
  have limits := range
  rw [ChannelConfig.inRange, decide_eq_true_iff] at limits
  have unit : unitOfCode (entryByte 3 e 0) = some c.unit :=
    (congrArg unitOfCode (entry 0)).trans (unitOfCode_unitCode c.unit)
  have k : entryByte 3 e 1 * 256 + entryByte 3 e 2 = c.k :=
    (congrArg_two (fun x y => x * 256 + y) (entry 1) (entry 2)).trans (toNat_bytes16 (by omega))
  simp only [parseChannel, unit, k]
  exact if_pos range

theorem parseRoute_routeBytes {r : Route} (range : r.inRange = true) :
    parseRoute (BitVec.ofNat 16 (bytesValue (routeBytes r))) = some r := by
  have entry (i : Fin 2) := entryByte_of_bytes (w := 16) (n := 2) (routeBytes r) rfl rfl i.isLt
  generalize BitVec.ofNat 16 (bytesValue (routeBytes r)) = e at entry ⊢
  have limits := range
  rw [Route.inRange, decide_eq_true_iff] at limits
  have priority : entryByte 2 e 0 = r.priority := (entry 0).trans ((toNat_byte r.priority).trans (by omega))
  have rescan : entryByte 2 e 1 = flagBit r.rescan 0 :=
    (entry 1).trans ((toNat_byte (flagBit r.rescan 0)).trans (by cases r.rescan <;> rfl))
  have flag : (flagBit r.rescan 0 == 1) = r.rescan ∧ flagBit r.rescan 0 ≤ 1 := by cases r.rescan <;> decide
  simp only [parseRoute, priority, rescan, flag.1]
  exact if_pos (by rw [Bool.and_eq_true, decide_eq_true_iff]; exact ⟨range, flag.2⟩)

/-- A 12-bit pair reads back as its two values (R174). -/
theorem pair12_values {x y : Nat} (highRange : x < 4096) (lowRange : y < 4096) :
    (byte (x / 16)).toNat * 16 + (byte (x % 16 * 16 + y / 256)).toNat / 16 = x ∧
      (byte (x % 16 * 16 + y / 256)).toNat % 16 * 256 + (byte y).toNat = y := by
  simp only [toNat_byte]
  omega

/-- The flags and the trim fade of a zone share a byte (11, Table entries). -/
theorem zoneFlags_values (inUse switchOff : Bool) (fade : Fade) :
    let b := (byte (flagBit inUse 7 + flagBit switchOff 6 + fade.val)).toNat
    (b / 128 % 2 == 1) = inUse ∧ (b / 64 % 2 == 1) = switchOff ∧ Fin.ofNat 16 b = fade := by
  revert inUse switchOff fade
  decide

theorem parseZone_zoneBytes {z : ZoneConfig} (range : z.inRange = true) :
    parseZone (BitVec.ofNat 64 (bytesValue (zoneBytes z))) = some z := by
  have entry (i : Fin 8) := entryByte_of_bytes (w := 64) (n := 8) (zoneBytes z) rfl rfl i.isLt
  generalize BitVec.ofNat 64 (bytesValue (zoneBytes z)) = e at entry ⊢
  have limits := range
  rw [ZoneConfig.inRange, decide_eq_true_iff] at limits
  obtain ⟨target, slewUp⟩ := pair12_values (x := z.target) (y := z.slewUp) (by omega) (by omega)
  obtain ⟨slewDown, offDwell⟩ := pair12_values (x := z.slewDown) (y := z.offDwell) (by omega) (by omega)
  obtain ⟨inUse, switchOff, trimFade⟩ := zoneFlags_values z.inUse z.switchOff z.trimFade
  have flags : entryByte 8 e 0 = (byte (flagBit z.inUse 7 + flagBit z.switchOff 6 + z.trimFade.val)).toNat := entry 0
  have deadBand : entryByte 8 e 1 = z.deadBand := (entry 1).trans ((toNat_byte z.deadBand).trans (by omega))
  have high (i : Fin 7) := congrArg_two (fun x y => x * 16 + y / 16) (entry i.castSucc) (entry i.succ)
  have low (i : Fin 6) := congrArg_two (fun x y => x % 16 * 256 + y) (entry i.castSucc.succ) (entry i.succ.succ)
  have pair0 : pairHigh 8 e 2 = z.target := (high 2).trans target
  have pair1 : pairLow 8 e 2 = z.slewUp := (low 2).trans slewUp
  have pair2 : pairHigh 8 e 5 = z.slewDown := (high 5).trans slewDown
  have pair3 : pairLow 8 e 5 = z.offDwell := (low 5).trans offDwell
  simp only [parseZone, flags, inUse, switchOff, trimFade, deadBand, pair0, pair1, pair2, pair3]
  exact if_pos range

/-- Two 4-bit values in a byte (R174). -/
theorem nibbles_values {x y : Nat} (high : x < 16) (low : y < 16) :
    (byte (x * 16 + y)).toNat / 16 = x ∧ (byte (x * 16 + y)).toNat % 16 = y := by
  rw [toNat_byte]
  omega

/-- The scan mode, the top of the threshold and the sky channel share a byte (11, Table entries). -/
theorem modeByte_values {m t c : Nat} (mode : m < 4) (threshold : t < 1024) (sky : c < 16) :
    (byte (m * 64 + t / 256 * 16 + c)).toNat / 64 = m ∧ (byte (m * 64 + t / 256 * 16 + c)).toNat % 16 = c ∧
      (byte (m * 64 + t / 256 * 16 + c)).toNat / 16 % 4 * 256 + (byte t).toNat = t := by
  rw [toNat_byte, toNat_byte]
  omega

theorem parseSettings_settingsBytes {t : Settings} (range : t.inRange = true) :
    parseSettings (BitVec.ofNat 64 (bytesValue (settingsBytes t))) = some t := by
  have entry (i : Fin 8) := entryByte_of_bytes (w := 64) (n := 8) (settingsBytes t) rfl rfl i.isLt
  generalize BitVec.ofNat 64 (bytesValue (settingsBytes t)) = e at entry ⊢
  have limits := range
  rw [Settings.inRange, decide_eq_true_iff] at limits
  have modeRange : scanModeCode t.mode < 4 := by cases t.mode <;> decide
  have skyRange : skyCode t.sky < 16 := by
    cases t.sky with
    | none => decide
    | some c => exact Nat.lt_of_lt_of_le c.isLt (by decide)
  obtain ⟨first, last⟩ := nibbles_values (x := t.first.val) (y := t.last.val) (by omega) (by omega)
  obtain ⟨stale, recover⟩ := nibbles_values (x := t.staleLimit) (y := t.recoverLimit) (by omega) (by omega)
  obtain ⟨mode, sky, threshold⟩ := modeByte_values modeRange (t := t.threshold) (by omega) skyRange
  have byte0 : entryByte 8 e 0 = (byte (t.first.val * 16 + t.last.val)).toNat := entry 0
  have byte1 : entryByte 8 e 1 = (byte (t.staleLimit * 16 + t.recoverLimit)).toNat := entry 1
  have byte2 : entryByte 8 e 2 = (byte (scanModeCode t.mode * 64 + t.threshold / 256 * 16 + skyCode t.sky)).toNat := entry 2
  have byte7 : entryByte 8 e 7 = (byte t.threshold).toNat := entry 7
  have period : entryByte 8 e 3 * 256 + entryByte 8 e 4 = t.period :=
    (congrArg_two (fun x y => x * 256 + y) (entry 3) (entry 4)).trans (toNat_bytes16 (by omega))
  have verify : entryByte 8 e 5 * 256 + entryByte 8 e 6 = t.verifyInterval :=
    (congrArg_two (fun x y => x * 256 + y) (entry 5) (entry 6)).trans (toNat_bytes16 (by omega))
  simp only [parseSettings, byte0, byte1, byte2, byte7, first, last, stale, recover, mode, sky, threshold, period, verify,
    channelOfCode_val, scanModeOfCode_scanModeCode, skyOfCode_skyCode]
  exact if_pos range

/-- Settles O17: the round trips, and the entries that are taken with the fields their bytes spell. -/
theorem writableEntriesRoundTrip : Obligations.WritableEntriesRoundTrip :=
  ⟨fun _ => parseRow_rowBytes, fun _ => parseZone_zoneBytes, fun _ => parseChannel_channelBytes, ofNat_bytes64,
    fun _ => parseRoute_routeBytes, fun _ => parseSettings_settingsBytes, fun e => ⟨parseRow_eq e, parseChannel_eq e⟩,
    parseRoute_eq, parseZone_eq, parseSettings_eq⟩

end Sys2Proof.Machine

namespace Sys2Proof.Machine

/-! ## What a receiver has of a line (O14) -/

/-- The bit that a cell's two half-cell levels spell (R2, R3). -/
def bitOfLevels (l : Bool × Bool) : Option Bool := if l.1 = l.2 then none else some l.2

theorem cellBit_eq (c : Cell) : cellBit c = bitOfLevels (c.1.level, c.2.level) := rfl

theorem bitOfLevels_driveBit (b : Bool) : bitOfLevels (driveBit b) = some b := by cases b <;> rfl

/-- Cells with the levels of driven bits have these bits. -/
theorem map_cellBit_of_levels {cells : List Cell} {bits : List Bool}
    (levels : (cells.map fun c => (c.1.level, c.2.level)) = bits.map driveBit) : cells.map cellBit = bits.map some := by
  have mapped := congrArg (List.map bitOfLevels) levels
  rw [List.map_map, List.map_map] at mapped
  exact mapped.trans (List.map_congr_left fun b _ => bitOfLevels_driveBit b)

section
variable {c : Cell} {b : Bool} (cells : List Cell) (value : Nat)

theorem bytesOfCells_of_break (fault : cellBit c = none) (count : Nat) :
    bytesOfCells (c :: cells) count value = ([], true) := by
  rw [bytesOfCells, fault]

theorem bytesOfCells_of_bit (bit : cellBit c = some b) {count : Nat} (inside : count ≠ 7) :
    bytesOfCells (c :: cells) count value = bytesOfCells cells (count + 1) (value + flagBit b count) := by
  rw [bytesOfCells, bit]
  exact if_neg inside

theorem bytesOfCells_of_last (bit : cellBit c = some b) :
    bytesOfCells (c :: cells) 7 value =
      (byte (value + flagBit b 7) :: (bytesOfCells cells 0 0).1, (bytesOfCells cells 0 0).2) := by
  rw [bytesOfCells, bit]
  exact if_pos rfl

end

/-- What bits from place `count` on are worth in a byte (R4). -/
def bitsValue : List Bool → Nat → Nat
  | [], _ => 0
  | b :: bits, count => flagBit b count + bitsValue bits (count + 1)

/-- A run of bits that does not fill the byte only adds to it. -/
theorem bytesOfCells_of_bits {cells : List Cell} {bits : List Bool} (are : cells.map cellBit = bits.map some) {count : Nat}
    (inside : count + bits.length < 8) (value : Nat) (rest : List Cell) :
    bytesOfCells (cells ++ rest) count value =
      bytesOfCells rest (count + bits.length) (value + bitsValue bits count) := by
  induction bits generalizing cells count value with
  | nil =>
    rw [List.map_nil, List.map_eq_nil_iff] at are
    subst are
    rfl
  | cons b bits ih =>
    obtain ⟨c, cells, rfl, bit, are⟩ := List.map_eq_cons_iff.mp are
    rw [List.length_cons] at inside
    rw [List.cons_append, bytesOfCells_of_bit _ _ bit (by omega), ih are (by omega), List.length_cons, bitsValue,
      Nat.add_assoc value, Nat.add_assoc count, Nat.add_comm 1]

theorem byte_bitsValue (b : Byte) :
    byte (0 + bitsValue ([0, 1, 2, 3, 4, 5, 6].map fun k => b.getLsbD k) 0 + flagBit (b.getLsbD 7) 7) = b := by
  revert b
  decide

/-- Eight cells that spell a byte give this byte (R4). -/
theorem bytesOfCells_of_byte {cells : List Cell} {b : Byte} (are : cells.map cellBit = (bitsOfByte b).map some)
    (rest : List Cell) :
    bytesOfCells (cells ++ rest) 0 0 = (b :: (bytesOfCells rest 0 0).1, (bytesOfCells rest 0 0).2) := by
  have split : (bitsOfByte b).map some =
      ([0, 1, 2, 3, 4, 5, 6].map fun k => b.getLsbD k).map some ++ [some (b.getLsbD 7)] := rfl
  obtain ⟨seven, last, rfl, sevenAre, lastIs⟩ := List.map_eq_append_iff.mp (are.trans split)
  obtain ⟨c, rfl, bit⟩ := List.map_eq_singleton_iff.mp lastIs
  rw [List.append_assoc, bytesOfCells_of_bits sevenAre (by simp)]
  refine (bytesOfCells_of_last _ _ bit).trans ?_
  rw [byte_bitsValue]
  rfl

theorem bytesOfCells_of_bytes {cells : List Cell} {bytes : List Byte}
    (are : cells.map cellBit = (bytes.flatMap bitsOfByte).map some) (rest : List Cell) :
    bytesOfCells (cells ++ rest) 0 0 = (bytes ++ (bytesOfCells rest 0 0).1, (bytesOfCells rest 0 0).2) := by
  induction bytes generalizing cells with
  | nil =>
    rw [List.flatMap_nil, List.map_nil, List.map_eq_nil_iff] at are
    subst are
    rfl
  | cons b bytes ih =>
    rw [List.flatMap_cons, List.map_append] at are
    obtain ⟨first, others, rfl, firstAre, othersAre⟩ := List.map_eq_append_iff.mp are
    rw [List.append_assoc, bytesOfCells_of_byte firstAre, ih othersAre]
    rfl

theorem receive_of_start {start : Cell} (bit : cellBit start = some true) (cells : List Cell) :
    receive (start :: cells) = ⟨(bytesOfCells cells 0 0).1, (bytesOfCells cells 0 0).2,
      (start :: cells).any fun c => c.1.noisy || c.2.noisy⟩ := if_pos bit

theorem receive_of_no_start {start : Cell} (fault : cellBit start = none) (cells : List Cell) :
    receive (start :: cells) = ⟨[], true, (start :: cells).any fun c => c.1.noisy || c.2.noisy⟩ :=
  if_neg (by simp [fault])

/-- A line that spells whole bytes and then fewer than 8 bits has these bytes; how it goes on decides the rest. -/
theorem receive_of_levels {line : List Cell} {bytes : List Byte} {bits : List Bool} (short : bits.length < 8)
    (levels : (line.map fun c => (c.1.level, c.2.level)) = driveBytes bytes ++ bits.map driveBit) (rest : List Cell) :
    ∃ value, receive (line ++ rest) =
      ⟨bytes ++ (bytesOfCells rest bits.length value).1, (bytesOfCells rest bits.length value).2,
        (line ++ rest).any fun c => c.1.noisy || c.2.noisy⟩ := by
  have drives : driveBytes bytes ++ bits.map driveBit = (true :: bytes.flatMap bitsOfByte ++ bits).map driveBit := by
    rw [List.map_append]
    rfl
  have are := map_cellBit_of_levels (levels.trans drives)
  rw [List.map_append] at are
  obtain ⟨frame, tail, rfl, frameIs, tailIs⟩ := List.map_eq_append_iff.mp are
  obtain ⟨start, cells, rfl, startBit, cellsAre⟩ := List.map_eq_cons_iff.mp frameIs
  refine ⟨0 + bitsValue bits 0, ?_⟩
  have spelled : bytesOfCells (cells ++ tail ++ rest) 0 0 =
      (bytes ++ (bytesOfCells rest bits.length (0 + bitsValue bits 0)).1,
        (bytesOfCells rest bits.length (0 + bitsValue bits 0)).2) := by
    rw [List.append_assoc, bytesOfCells_of_bytes cellsAre, bytesOfCells_of_bits tailIs (by omega), Nat.zero_add bits.length]
  refine (receive_of_start startBit (cells ++ tail ++ rest)).trans ?_
  rw [spelled]
  rfl

theorem cellBit_eq_none {c : Cell} (flat : c.1.level = c.2.level) : cellBit c = none := if_pos flat

/-- Settles O14: what the transmitter drives, and what a receiver has of a line that spells it, breaks off or is flat. -/
theorem receiverReadsWhatTheLineSpells : Obligations.ReceiverReadsWhatTheLineSpells := by
  unfold Obligations.ReceiverReadsWhatTheLineSpells
  intro levels noisy
  refine ⟨fun bytes => ?_, fun bytes line spells => ?_, fun bytes bits line short spells => ⟨fun some => ?_, fun c rest flat => ?_⟩,
    fun c rest flat => receive_of_no_start (cellBit_eq_none flat) rest⟩
  · rw [driveBytes, List.map_flatMap]
    rfl
  · obtain ⟨value, received⟩ := receive_of_levels (bits := []) (by decide) (spells.trans (List.append_nil _).symm) []
    rw [List.append_nil] at received
    rw [received]
    simp [bytesOfCells, noisy]
  · obtain ⟨value, received⟩ := receive_of_levels short spells []
    obtain ⟨b, bits, rfl⟩ := List.exists_cons_of_ne_nil some
    rw [List.append_nil] at received
    rw [received]
    simp [bytesOfCells, noisy]
  · obtain ⟨value, received⟩ := receive_of_levels short spells (c :: rest)
    rw [received, bytesOfCells_of_break _ _ (cellBit_eq_none flat), List.append_nil]

end Sys2Proof.Machine
